-- ==== Sys2Proof/Word.lean ====
section
/-! DEFINITION. The bit-vector types of the spec (00_scope.md R8, 20_memory.md R80):
a byte is 8 bits, a word 16 bits. A bus address has `ADDR_BITS` bits, a parameter of the configuration
(R6), and is held in the 32 bits of its register slot (10_state.md R31; entry 2 of the assumption log).
Bit 0 is the least significant bit. Everything built from them (halves, sign extension,
byte order) stands in Machine/Operands.lean. -/

namespace Sys2Proof

/-- A byte (R8). -/
abbrev Byte := BitVec 8

/-- A word: 16 bits (R8). -/
abbrev Word := BitVec 16

/-- A bus address, naming one byte (R80): the low `ADDR_BITS` bits of a 32-bit slot, the others 0 on the bus
(10_state.md R31; `onBus` in Machine/Operands.lean). -/
abbrev Addr := BitVec 32

end Sys2Proof
end

