-- ==== Sys2Proof/Config.lean ====
section
/-! DEFINITION. The implementation parameters of 00_scope.md R6, as one record of plain data, with the
defaults R6 gives, and the free values: constants with no body that stand for what the spec leaves to
the environment (41_bus_arbiter.md R161, 93_implementation_defined.md U4, U10). "A model takes the
configuration as an argument" (R6): the record is the field `cfg` of State and no rule writes it
(entries 1 to 4 of the assumption log). -/

namespace Sys2Proof

/-- An address range `base` to `base + size - 1` (20_memory.md R81, `EXT_REGIONS`). -/
structure AddrRange where
  base : Nat
  size : Nat
deriving DecidableEq, Repr

/-- One window of the remapping function: the addresses of `src` go to `dst` onwards (R82, entry 3). -/
structure RemapWindow where
  src : AddrRange
  dst : Nat
deriving DecidableEq, Repr

/-- `T_JAM[bank]`: extra ticks of a CPU access to each register bank (41_bus_arbiter.md R174). -/
structure JamTable where
  blit : Nat
  mfp  : Nat
  dma  : Nat
  vid  : Nat
  snd  : Nat
deriving DecidableEq, Repr

/-- One record of `VT` (45_video.md R431). -/
structure VideoTiming where
  lineLen  : Nat
  winStart : Nat
  winEnd   : Nat
  hbStart  : Nat
  lines    : Nat
  picFirst : Nat
  picLast  : Nat
deriving DecidableEq, Repr

/-- The configuration of 00_scope.md R6. -/
structure Config where
  /-- `ADDR_BITS`: the width of a bus address -/
  addrBits : Nat
  /-- `DATA_BITS`: the width of the bus data latch -/
  dataBits : Nat
  /-- `RAM_SIZE` -/
  ramSize : Nat
  /-- `EXT_REGIONS` -/
  extRegions : List AddrRange
  /-- `remap`, as a list of windows; the first window that holds the address applies, no window: identity -/
  remap : List RemapWindow
  /-- `T_BUS` -/
  tBus : Nat
  /-- `T_JAM` -/
  tJam : JamTable
  /-- `T_BERR`: OPEN in the spec (93 U3, entry 4) -/
  tBerr : Nat
  /-- `BLIT_SLICE` -/
  blitSlice : Nat
  /-- `CPU_SLICE_CYCLES` -/
  cpuSlice : Nat
  /-- `BLIT_BASE` -/
  blitBase : Nat
  /-- `MFP_BASE` -/
  mfpBase : Nat
  /-- `DMA_BASE` -/
  dmaBase : Nat
  /-- `VID_BASE` -/
  vidBase : Nat
  /-- `SND_BASE` -/
  sndBase : Nat
  /-- `BLIT_GPIO_BIT` -/
  blitGpio : BitVec 3
  /-- `DMA_GPIO_BIT` -/
  dmaGpio : BitVec 3
  /-- `MFP_IPL` -/
  mfpIpl : BitVec 3
  /-- `SPURIOUS_VECTOR` -/
  spuriousVector : Byte
  /-- `BUS_ERROR_VECTOR` -/
  busErrorVector : Byte
  /-- `ISR_BLOCKS_LOWER` -/
  isrBlocksLower : Bool
  /-- `PAL_MASK` -/
  palMask : Word
  /-- `VT[PAL_50]` -/
  vtPal50 : VideoTiming
  /-- `VT[NTSC_60]` -/
  vtNtsc60 : VideoTiming
  /-- `VT[MONO_71]` -/
  vtMono71 : VideoTiming
  /-- `SAMPLE_PERIOD[0]` -/
  samplePeriod0 : Nat
  /-- `SAMPLE_PERIOD[1]` -/
  samplePeriod1 : Nat
  /-- `SAMPLE_PERIOD[2]` -/
  samplePeriod2 : Nat
  /-- `SAMPLE_PERIOD[3]` -/
  samplePeriod3 : Nat
  /-- `EXT_RESET[0..7]`, line i in bit i -/
  extReset : Byte
deriving DecidableEq, Repr

/-- The defaults of 00_scope.md R6 and 45_video.md R431; `T_BERR` at the suggested 0 (entry 4). -/
def Config.default : Config where
  addrBits := 24
  dataBits := 16
  ramSize := 0x100000
  extRegions := []
  remap := []
  tBus := 4
  tJam := ⟨0, 0, 0, 0, 0⟩
  tBerr := 0
  blitSlice := 64
  cpuSlice := 256
  blitBase := 0xFF8A00
  mfpBase := 0xFFFA00
  dmaBase := 0xFF8600
  vidBase := 0xFF8200
  sndBase := 0xFF8900
  blitGpio := 3
  dmaGpio := 5
  mfpIpl := 6
  spuriousVector := 24
  busErrorVector := 2
  isrBlocksLower := false
  palMask := 0x0FFF
  vtPal50 := ⟨512, 56, 376, 376, 313, 63, 262⟩
  vtNtsc60 := ⟨508, 52, 372, 372, 263, 34, 233⟩
  vtMono71 := ⟨224, 0, 160, 160, 501, 34, 433⟩
  samplePeriod0 := 1280
  samplePeriod1 := 640
  samplePeriod2 := 320
  samplePeriod3 := 160
  extReset := 0xD7

/-- The constraints 45_video.md R431 puts on a timing record. -/
def VideoTiming.wf (v : VideoTiming) : Bool :=
  decide (v.winStart < v.winEnd) && decide (v.winEnd < v.lineLen) &&
  decide ((v.winEnd - v.winStart) % 4 = 0) &&
  decide (v.winEnd ≤ v.hbStart) && decide (v.hbStart < v.lineLen) &&
  decide (v.picFirst ≤ v.picLast) && decide (v.picLast < v.lines)

/-- Two ranges share no address; an empty range shares none with any. -/
def AddrRange.disjoint (a b : AddrRange) : Bool :=
  decide (a.size = 0) || decide (b.size = 0) ||
  decide (a.base + a.size ≤ b.base) || decide (b.base + b.size ≤ a.base)

/-- The address ranges of the configuration: the five banks, RAM, then `EXT_REGIONS` (20_memory.md R81). -/
def Config.ranges (c : Config) : List AddrRange :=
  ⟨c.blitBase, 0x40⟩ :: ⟨c.mfpBase, 0x30⟩ :: ⟨c.dmaBase, 0x10⟩ :: ⟨c.vidBase, 0x80⟩ ::
  ⟨c.sndBase, 0x40⟩ :: ⟨0, c.ramSize⟩ :: c.extRegions

/-- Every range is disjoint from every later one. -/
def rangesDisjoint : List AddrRange → Bool
  | [] => true
  | r :: rest => rest.all (AddrRange.disjoint r) && rangesDisjoint rest

/-- A well-formed configuration. The spec asks that "the five banks, RAM and `EXT_REGIONS` are pairwise disjoint"
(20_memory.md R81), that the timing records keep the constraints of 45_video.md R431, and that `RAM_SIZE` is even
(00_scope.md R6). Every other condition here is the model's, which the spec does not state: an even base for each
bank, each bank and RAM wholly inside the address space of `ADDR_BITS`, and two different driven lines (DESIGN CHOICE,
entry 41); `ADDR_BITS` at most 32 (DEDUCED from 10_state.md R31, entry 2); positive sample periods (DEDUCED from
40_scheduler.md R144, entry 25). No meaning reads this predicate; it is a premise of
statements only. -/
def Config.wf (c : Config) : Bool :=
  rangesDisjoint c.ranges &&
  c.vtPal50.wf && c.vtNtsc60.wf && c.vtMono71.wf &&
  decide (c.addrBits ≤ 32) &&
  decide (c.ramSize % 2 = 0) && decide (c.ramSize ≤ 2 ^ c.addrBits) &&
  decide (c.blitBase % 2 = 0) && decide (c.blitBase + 0x40 ≤ 2 ^ c.addrBits) &&
  decide (c.mfpBase % 2 = 0) && decide (c.mfpBase + 0x30 ≤ 2 ^ c.addrBits) &&
  decide (c.dmaBase % 2 = 0) && decide (c.dmaBase + 0x10 ≤ 2 ^ c.addrBits) &&
  decide (c.vidBase % 2 = 0) && decide (c.vidBase + 0x80 ≤ 2 ^ c.addrBits) &&
  decide (c.sndBase % 2 = 0) && decide (c.sndBase + 0x40 ≤ 2 ^ c.addrBits) &&
  decide (c.blitGpio ≠ c.dmaGpio) &&
  decide (0 < c.samplePeriod0) && decide (0 < c.samplePeriod1) &&
  decide (0 < c.samplePeriod2) && decide (0 < c.samplePeriod3)

/-- FREE VALUE: the byte at an address after the given number of cold resets, as long as nothing has
written it (70_reset_and_hazards.md R520, 93 U4; entry 10). -/
opaque Config.ramPowerOn : Nat → Nat → Byte

/-- FREE VALUE: the n-th answer of an `EXT` device no request has fixed (20_memory.md R86, 93 U4; entry 11). -/
opaque Config.extValue : Nat → Word

/-- FREE VALUE: the n-th answer of `ctrl_reg_read` no request has fixed (44_dma.md R385, 93 U4; entry 11). -/
opaque Config.ctrlValue : Nat → Word

/-- FREE VALUE: the n-th answer of `sample_source` no request has fixed (45_video.md R455; entry 11). -/
opaque Config.sampleValue : Nat → Word

/-- FREE VALUE: the position in the line where `line_start` is later than `now`, from `now` and `line_start`
(45_video.md R433, R440: no value is stated for a time before the line; only a RESTORE dump of 93 U10 brings it
about; entry 38). -/
opaque Config.posBeforeLine : Nat → Nat → Nat

/-- FREE VALUE: count and residue of a timer in delay mode whose slot is not due later than `now`, from
`now` and the due time (43_mfp.md R331 states them only for `due > now`; 93 U10, entry 15). -/
opaque Config.lateCounter : Nat → Option Nat → Byte × Nat

/-- FREE VALUE: the divider, less one, that the underflow of a timer in no delay mode uses (43_mfp.md R332
says "P of the current mode", which has none; 93 U10, entry 16). -/
opaque Config.strayDivider : Nat → Nat

end Sys2Proof
end

