-- ==== Sys2Proof/Machine/Types.lean ====
section
/-! DEFINITION. The vocabulary of the block: the names the spec uses for bus masters, slots, banks,
timers and registers, the operand shapes of register accesses, the records of each unit's state
(10_state.md) and the dump of 60_exceptions.md R505. Plain data only. -/

namespace Sys2Proof.Machine

/-- A bus master, and the unit of a transaction (R25, R26). -/
inductive Master where
  | cpu | blit | dma
deriving DecidableEq, Repr

/-- The unit that calls `request_bus` (41_bus_arbiter.md R166). -/
inductive Requester where
  | blit | dma
deriving DecidableEq, Repr

/-- Direction of a transaction (R25). -/
inductive Dir where
  | read | write
deriving DecidableEq, Repr

/-- Width of a transaction: 1 or 2 bytes (20_memory.md R85). -/
inductive Width where
  | byte | word
deriving DecidableEq, Repr

/-- The transaction record of 10_state.md R25. -/
structure Tx where
  address : Addr
  data    : Word
  width   : Width
  dir     : Dir
  unit    : Master
deriving DecidableEq, Repr

/-- The closed list of scheduler slots, in the order of 10_state.md R23. -/
inductive SlotId where
  | ta | tb | tc | td | blitResume | vidLine | vidDeOn | vidDeOff | vidHb | sndDrain
deriving DecidableEq, Repr

/-- A scheduler slot (R23); `due = none` is `NEVER` (40_scheduler.md R141). -/
structure Slot where
  due     : Option Nat
  seq     : Nat
  oneShot : Bool
deriving DecidableEq, Repr

/-- The ten slots (R23). -/
structure Slots where
  ta         : Slot
  tb         : Slot
  tc         : Slot
  td         : Slot
  blitResume : Slot
  vidLine    : Slot
  vidDeOn    : Slot
  vidDeOff   : Slot
  vidHb      : Slot
  sndDrain   : Slot
deriving DecidableEq, Repr

/-- Scheduler state (R21 to R23). -/
structure Sched where
  now     : Nat
  seqNext : Nat
  slots   : Slots
deriving DecidableEq, Repr

/-- Arbiter state but for the owner (R24 to R27). -/
structure Bus where
  addrLatch : Addr
  dataLatch : Word
  lastTx    : Tx
  burstLeft : Nat
  cpuIdle   : Nat
deriving DecidableEq, Repr

/-- Blitter state (R29 to R39). `phase` is the 3-bit code of R38. -/
structure Blit where
  halftone : Vector Word 16
  srcXinc  : Word
  srcYinc  : Word
  dstXinc  : Word
  dstYinc  : Word
  srcAddr  : Addr
  dstAddr  : Addr
  endmask1 : Word
  endmask2 : Word
  endmask3 : Word
  yCount   : Word
  xCount   : Word
  xReload  : Word
  hop      : BitVec 2
  op       : BitVec 4
  busy     : Bool
  hog      : Bool
  smudge   : Bool
  line     : BitVec 4
  fxsr     : Bool
  skew     : BitVec 4
  rsv6     : Bool
  srcbuf   : BitVec 32
  phase    : BitVec 3
  dlatch   : Word
  request  : Bool
  done     : Bool
  timeout  : Nat
  windows  : Nat
deriving DecidableEq, Repr

/-- One MFP timer (R49 to R52). `ctrl` holds 4 bits for A and B, 3 (bit 3 zero) for C and D. While the
timer runs in a delay mode `cnt` and `res` are not stored (R51, R52) and stand at 0 (entry 14). -/
structure Timer where
  ctrl : BitVec 4
  data : Byte
  cnt  : Byte
  res  : Nat
deriving DecidableEq, Repr

/-- MFP state (R40 to R53). -/
structure Mfp where
  ext     : Byte
  gpipOut : Byte
  aer     : Byte
  ddr     : Byte
  ier     : Word
  ipr     : Word
  isr     : Word
  imr     : Word
  vr      : Byte
  ta      : Timer
  tb      : Timer
  tc      : Timer
  td      : Timer
  tai     : Bool
  tbi     : Bool
deriving DecidableEq, Repr

/-- Disk DMA state (R54 to R61). -/
structure Dma where
  mode        : Word
  sectorCount : Byte
  byteCnt     : Nat
  err         : Bool
  buf0        : Vector Byte 16
  buf1        : Vector Byte 16
  active      : Nat
  idx         : Nat
  otherFull   : Bool
  addr        : Addr
deriving DecidableEq, Repr

/-- The latched bounds of a scanline (R67). -/
structure Bounds where
  lineLen  : Nat
  winStart : Nat
  winEnd   : Nat
  hbStart  : Nat
  pic      : Bool
deriving DecidableEq, Repr

/-- Video timing state (R62 to R69). -/
structure Vid where
  sync      : BitVec 2
  palette   : Vector Word 16
  shiftMode : BitVec 2
  hscroll   : BitVec 4
  line      : Nat
  lineStart : Nat
  bounds    : Bounds
  de        : Bool
deriving DecidableEq, Repr

/-- Sound state (R70, R71). -/
structure Snd where
  fifo : List Word
  last : Word
  en   : Bool
  rate : BitVec 2
deriving DecidableEq, Repr

/-- The dump of 60_exceptions.md R505, a record as the rule says. `owner = none` stands for a value that
is "not one of CPU, BLIT, DMA" (R486); `cfg` is the configuration the dump was taken under, so that a dump
of "other configuration" can be told (R501; entry 27). RAM is not part of it. -/
structure Dump where
  cfg   : Config
  sched : Sched
  bus   : Bus
  owner : Option Master
  blit  : Blit
  mfp   : Mfp
  dma   : Dma
  vid   : Vid
  ptr   : Nat
  snd   : Snd
deriving DecidableEq, Repr

/-- The five register banks (20_memory.md R81). -/
inductive Bank where
  | blit | mfp | dma | vid | snd
deriving DecidableEq, Repr

/-- What an address, after remapping, belongs to (R81); a bank with the offset in it. -/
inductive Region where
  | bank (b : Bank) (o : Nat)
  | ram
  | ext
  | none
deriving DecidableEq, Repr

/-- The registers of the map (30_encoding.md R114). -/
inductive Reg where
  | halftone (n : BitVec 4)
  | srcXinc | srcYinc | srcAddr | endmask1 | endmask2 | endmask3 | dstXinc | dstYinc | dstAddr
  | xCount | yCount | hop | op | ctrl | skew
  | gpip | aer | ddr | iera | ierb | ipra | iprb | isra | isrb | imra | imrb | vr
  | tacr | tbcr | tcdcr | tadr | tbdr | tcdr | tddr
  | data | mode | addrHi | addrMid | addrLo
  | sync | palette (n : BitVec 4) | shiftMode | hscroll
  | sndCtrl | sndMode
deriving DecidableEq, Repr

/-- The four timers (R49). -/
inductive TimerId where
  | a | b | c | d
deriving DecidableEq, Repr

/-- The timers of format TMODE_AB (30_encoding.md R122). -/
inductive TimerAB where
  | a | b
deriving DecidableEq, Repr

/-- The timers of format TMODE_CD (30_encoding.md R123). -/
inductive TimerCD where
  | c | d
deriving DecidableEq, Repr

/-- `class(m)` of 43_mfp.md R320. -/
inductive TimerClass where
  | stopped
  | delay (p : Nat)
  | event
deriving DecidableEq, Repr

/-- The three modes of 45_video.md R430. -/
inductive VideoMode where
  | pal50 | ntsc60 | mono71
deriving DecidableEq, Repr

/-- Which bytes of a 16-bit register an access covers: the high one, the low one, both. -/
inductive Lane where
  | hi | lo | both
deriving DecidableEq, Repr

/-- A write to a 16-bit register: one byte of it, or the whole word. -/
inductive Wr16 where
  | hi (v : Byte)
  | lo (v : Byte)
  | both (v : Word)
deriving DecidableEq, Repr

/-- An access to a 16-bit register. -/
inductive Acc16 where
  | rd (l : Lane)
  | wr (w : Wr16)
deriving DecidableEq, Repr

/-- An access to a one-byte register. -/
inductive Acc8 where
  | rd
  | wr (v : Byte)
deriving DecidableEq, Repr

/-- The internal steps of the step relation (41_bus_arbiter.md R160, priorities 1 to 4). -/
inductive InternalStep where
  | fire | dmaWord | blitPhase | grantDma | grantBlit
deriving DecidableEq, Repr

/-- The formats of spec/opcode_table.json that have an encoding (30_encoding.md R110). -/
inductive Format where
  | cmd | call | reg | blitOp | blitHop | tmodeAB | tmodeCD | dmaMode | shiftMode | sync | sndRate | sndCtrl
deriving DecidableEq, Repr

/-- An operation as it is handed to the block: its format, its bytes, and the record that RESTORE carries
(R130; entries 8 and 27). -/
structure Packet where
  format : Format
  bytes  : List Byte
  dump   : Option Dump
deriving DecidableEq, Repr

end Sys2Proof.Machine
end

