-- ==== Sys2Proof/Machine/Operands.lean ====
section
/-! DEFINITION. How operands are formed (30_encoding.md R128) and the byte and bit helpers the decoder, the
register rules and the memory operations share: halves and bytes of a value, big-endian assembly
(20_memory.md R84), sign extension, hardwired bits, single-bit update. -/

namespace Sys2Proof.Machine

/-- Bits 15:8 of a word. -/
def hiByte (w : Word) : Byte := w.extractLsb' 8 8

/-- Bits 7:0 of a word. -/
def loByte (w : Word) : Byte := w.extractLsb' 0 8

/-- `h ++ l`: the word whose byte at the lower address is `h` (R84, R128 a). -/
def mkWord (h l : Byte) : Word := h ++ l

/-- `zext_16` of a byte. -/
def byteToWord (b : Byte) : Word := b.setWidth 16

/-- One bit of a value set to a level; the other bits stay. -/
def putBit {w : Nat} (v : BitVec w) (i : Nat) (b : Bool) : BitVec w :=
  if b then v ||| (1#w <<< i) else v &&& ~~~(1#w <<< i)

/-- A bit of a register as a value of width 1 is written from a Bool (R8). -/
def bit1 (b : Bool) : BitVec 1 := BitVec.ofBool b

/-- Bit 0 hardwired 0, 16 bits (R128 d). -/
def evenWord (w : Word) : Word := w &&& 0xFFFE

/-- Bit 0 hardwired 0 (R128 b, c). -/
def evenAddr (a : Addr) : Addr := a &&& 0xFFFFFFFE

/-- The low `n` bits of a value; the others are 0. -/
def lowBits {w : Nat} (n : Nat) (v : BitVec w) : BitVec w := v &&& BitVec.ofNat w (2 ^ n - 1)

/-- An address on the bus: `ADDR_BITS` bits, "bits at or above `ADDR_BITS` do not exist" (20_memory.md R80,
44_dma.md R386; entry 2). -/
def onBus (c : Config) (a : Addr) : Addr := lowBits c.addrBits a

/-- A value in the data latch: `DATA_BITS` bits (00_scope.md R6, 41_bus_arbiter.md R170; entry 2). -/
def onLatch (c : Config) (v : Word) : Word := lowBits c.dataBits v

/-- A value of SRC_ADDR, DST_ADDR or `dma_addr`: `ADDR_BITS` bits, bit 0 hardwired 0 (10_state.md R31, R61). -/
def addrReg (c : Config) (a : Addr) : Addr := onBus c (evenAddr a)

/-- `sext` of an increment to an address (R128 d). -/
def sextAddr (w : Word) : Addr := w.signExtend 32

/-- An address register moved by an increment, modulo 2^`ADDR_BITS` (42_blitter.md R223, 44_dma.md R404). -/
def stepAddr (c : Config) (a inc : Addr) : Addr := onBus c (a + inc)

/-- A count field: 0 stands for 65536 (R128 e). -/
def countValue (c : Word) : Nat := if c = 0 then 65536 else c.toNat

/-- A timer data value: 0 stands for 256 (R128 f). -/
def timerValue (v : Byte) : Nat := if v = 0 then 256 else v.toNat

/-- A vector number `VR[7:4] ++ s` (R128 h). -/
def vectorNumber (vr : Byte) (s : BitVec 4) : Byte := vr.extractLsb' 4 4 ++ s

/-- `ceil_div` (00_scope.md R8); the divider is a timer's, never 0. -/
def ceilDiv (a b : Nat) : Nat := (a + b - 1) / b

/-- Half A (bits 15:8) of a 16-bit source vector replaced (10_state.md R43). -/
def putHalfA (v : Word) (b : Byte) : Word := b ++ loByte v

/-- Half B (bits 7:0) of a 16-bit source vector replaced (10_state.md R43). -/
def putHalfB (v : Word) (b : Byte) : Word := hiByte v ++ b

/-- Bits 31:24 of an address. -/
def addrTop (a : Addr) : Byte := a.extractLsb' 24 8
/-- Bits 23:16 of an address. -/
def addrHi (a : Addr) : Byte := a.extractLsb' 16 8
/-- Bits 15:8 of an address. -/
def addrMid (a : Addr) : Byte := a.extractLsb' 8 8
/-- Bits 7:0 of an address. -/
def addrLo (a : Addr) : Byte := a.extractLsb' 0 8

/-- `h ++ m ++ l` as an address (R128 c; the 3 address bytes of R130). -/
def mkAddr (h m l : Byte) : Addr := (0 : Byte) ++ h ++ m ++ l

/-- Byte `k` of a register value of `size` bytes, byte 0 being the most significant (20_memory.md R88). -/
def regByte (v : BitVec 32) (size k : Nat) : Byte := (v >>> (8 * (size - 1 - k))).setWidth 8

/-- Byte `k` of a register value replaced (20_memory.md R89). -/
def putRegByte (v : BitVec 32) (size k : Nat) (b : Byte) : BitVec 32 :=
  (v &&& ~~~((0xFF : BitVec 32) <<< (8 * (size - 1 - k)))) ||| (b.setWidth 32 <<< (8 * (size - 1 - k)))

/-- A byte of a 16-byte buffer; an index outside it, which no rule uses, gives 0. -/
def bufGet (v : Vector Byte 16) (i : Nat) : Byte := (v[i]?).getD 0

/-- A byte of a 16-byte buffer replaced; an index outside it changes nothing. -/
def bufPut (v : Vector Byte 16) (i : Nat) (b : Byte) : Vector Byte 16 := v.setIfInBounds i b

/-- An entry of a 16-word table (halftone, palette). -/
def tableGet (v : Vector Word 16) (n : BitVec 4) : Word := v[n.toNat]'n.isLt

/-- An entry of a 16-word table replaced. -/
def tablePut (v : Vector Word 16) (n : BitVec 4) (w : Word) : Vector Word 16 := v.set n.toNat w n.isLt

/-- `base + n` as an address. -/
def addrAt (base o : Nat) : Addr := BitVec.ofNat 32 (base + o)

/-- The timer of a TMODE_AB row (30_encoding.md R122). -/
def timerOfAB : TimerAB → TimerId
  | .a => .a
  | .b => .b

/-- The timer of a TMODE_CD row (30_encoding.md R123). -/
def timerOfCD : TimerCD → TimerId
  | .c => .c
  | .d => .d

/-- The offset a lane of a 16-bit register at offset `o` is reached at, and the width of the access. -/
def laneAccess (o : Nat) : Lane → Nat × Width
  | .hi => (o, .byte)
  | .lo => (o + 1, .byte)
  | .both => (o, .word)

/-- The slots in the order of 10_state.md R23. -/
def slotIds : List SlotId :=
  [.ta, .tb, .tc, .td, .blitResume, .vidLine, .vidDeOn, .vidDeOff, .vidHb, .sndDrain]

/-- The slot with an id (10_state.md R23). -/
def slotGet (t : Slots) : SlotId → Slot
  | .ta => t.ta
  | .tb => t.tb
  | .tc => t.tc
  | .td => t.td
  | .blitResume => t.blitResume
  | .vidLine => t.vidLine
  | .vidDeOn => t.vidDeOn
  | .vidDeOff => t.vidDeOff
  | .vidHb => t.vidHb
  | .sndDrain => t.sndDrain

/-- The slots with one slot replaced. -/
def slotPut (t : Slots) (id : SlotId) (x : Slot) : Slots :=
  match id with
  | .ta => { t with ta := x }
  | .tb => { t with tb := x }
  | .tc => { t with tc := x }
  | .td => { t with td := x }
  | .blitResume => { t with blitResume := x }
  | .vidLine => { t with vidLine := x }
  | .vidDeOn => { t with vidDeOn := x }
  | .vidDeOff => { t with vidDeOff := x }
  | .vidHb => { t with vidHb := x }
  | .sndDrain => { t with sndDrain := x }

/-- The record of a timer (10_state.md R49). -/
def timerGet (m : Mfp) : TimerId → Timer
  | .a => m.ta
  | .b => m.tb
  | .c => m.tc
  | .d => m.td

/-- The MFP with the record of one timer replaced. -/
def timerPut (m : Mfp) (id : TimerId) (x : Timer) : Mfp :=
  match id with
  | .a => { m with ta := x }
  | .b => { m with tb := x }
  | .c => { m with tc := x }
  | .d => { m with td := x }

/-- The scheduler slot of a timer (40_scheduler.md R146). -/
def timerSlot : TimerId → SlotId
  | .a => .ta
  | .b => .tb
  | .c => .tc
  | .d => .td

/-- `timer_source(T)` (43_mfp.md R300, R332). -/
def timerSource : TimerId → BitVec 4
  | .a => 13
  | .b => 8
  | .c => 5
  | .d => 4

/-- `line_source(i)` (43_mfp.md R300). -/
def lineSource (i : BitVec 3) : BitVec 4 :=
  if i = 7 then 15 else if i = 6 then 14 else if i = 5 then 7 else if i = 4 then 6
  else i.setWidth 4

/-- `class(m)` of a mode code (43_mfp.md R320, 30_encoding.md R122, R123). -/
def timerClass (m : BitVec 4) : TimerClass :=
  if m = 1 then .delay 4
  else if m = 2 then .delay 10
  else if m = 3 then .delay 16
  else if m = 4 then .delay 50
  else if m = 5 then .delay 64
  else if m = 6 then .delay 100
  else if m = 7 then .delay 200
  else if m = 8 then .event
  else .stopped

/-- The base address of a bank (20_memory.md R81). -/
def bankBase (c : Config) : Bank → Nat
  | .blit => c.blitBase
  | .mfp => c.mfpBase
  | .dma => c.dmaBase
  | .vid => c.vidBase
  | .snd => c.sndBase

/-- The number of bytes of a bank (20_memory.md R81). -/
def bankSize : Bank → Nat
  | .blit => 0x40
  | .mfp => 0x30
  | .dma => 0x10
  | .vid => 0x80
  | .snd => 0x40

/-- `T_JAM[bank]` (41_bus_arbiter.md R174). -/
def bankJam (c : Config) : Bank → Nat
  | .blit => c.tJam.blit
  | .mfp => c.tJam.mfp
  | .dma => c.tJam.dma
  | .vid => c.tJam.vid
  | .snd => c.tJam.snd

/-- The bus address of a bank's offset (20_memory.md R81). -/
def bankAddr (c : Config) (b : Bank) (o : Nat) : Addr := onBus c (addrAt (bankBase c b) o)

/-- An address lies in a range. -/
def inRange (r : AddrRange) (a : Nat) : Bool := decide (r.base ≤ a) && decide (a < r.base + r.size)

/-- `remap` (20_memory.md R82), an address to an address: the first window that holds it moves it; no window,
identity (entry 3). -/
def remapAddr (c : Config) (a : Addr) : Addr :=
  match c.remap.find? (fun w => inRange w.src a.toNat) with
  | some w => onBus c (addrAt w.dst (a.toNat - w.src.base))
  | none => a

/-- The offset in a bank, if the address lies in it. -/
def bankOffset (c : Config) (b : Bank) (p : Nat) : Option Nat :=
  if inRange ⟨bankBase c b, bankSize b⟩ p then some (p - bankBase c b) else none

/-- The region of an address after remapping, tried in the order of 20_memory.md R81. -/
def regionOf (c : Config) (p : Addr) : Region :=
  match bankOffset c .blit p.toNat with
  | some o => .bank .blit o
  | none =>
  match bankOffset c .mfp p.toNat with
  | some o => .bank .mfp o
  | none =>
  match bankOffset c .dma p.toNat with
  | some o => .bank .dma o
  | none =>
  match bankOffset c .vid p.toNat with
  | some o => .bank .vid o
  | none =>
  match bankOffset c .snd p.toNat with
  | some o => .bank .snd o
  | none =>
    if p.toNat < c.ramSize then .ram
    else if c.extRegions.any (fun r => inRange r p.toNat) then .ext
    else .none

/-- `SAMPLE_PERIOD[r]` (30_encoding.md R127). -/
def samplePeriod (c : Config) (r : BitVec 2) : Nat :=
  if r = 0 then c.samplePeriod0 else if r = 1 then c.samplePeriod1
  else if r = 2 then c.samplePeriod2 else c.samplePeriod3

/-- `VT[mode]` (45_video.md R431). -/
def videoTiming (c : Config) : VideoMode → VideoTiming
  | .pal50 => c.vtPal50
  | .ntsc60 => c.vtNtsc60
  | .mono71 => c.vtMono71

end Sys2Proof.Machine
end

