-- ==== Sys2Proof/Machine/State.lean ====
section
/-! DEFINITION. The machine's state (10_state.md R20 to R72), its faults and refusals, and the state after
reset (70_reset_and_hazards.md R520 to R523). Plain data; every field of the spec under the record of its
unit. The fields `inbox`, `env` and `out` are the MODEL's own: the environment's commands and answers, and
the output streams of R72 (entries 5, 11, 12). -/

namespace Sys2Proof.Machine

/-- The unit an `InvalidState` record names (60_exceptions.md R486). -/
inductive UnitName where
  | blitter | arbiter | dma | sound | video
deriving DecidableEq, Repr

/-- Trace records (60_exceptions.md R504). -/
inductive TraceRec where
  | dispatch (source : BitVec 4) (vector : Byte)
  | dispatchSpurious
  | blitPhase (old new : BitVec 3)
  | dmaBurstComplete (addr : Addr) (sectors : Byte)
  | pendingAgain (source : BitVec 4)
  | invalidState (unit : UnitName)
deriving DecidableEq, Repr

/-- Records of `video_sink` (45_video.md R462); the value of `ptr` stands beside each in the stream (R440,
entry 40). -/
inductive VideoRec where
  | paletteChange (line x : Nat) (index : BitVec 4) (value : Word)
  | modeChange (line x : Nat) (res : BitVec 2)
  | scrollChange (line x : Nat) (value : BitVec 4)
deriving DecidableEq, Repr

/-- What is handed to devices outside the block (20_memory.md R86, R87, 44_dma.md R385; entry 13). -/
inductive DeviceRec where
  | extRead (a : Addr) (w : Width)
  | extWrite (a : Addr) (w : Width) (v : Word)
  | ctrlRead (ca : BitVec 2)
  | ctrlWrite (ca : BitVec 2) (v : Word)
deriving DecidableEq, Repr

/-- Why a command was turned away with no effect (30_encoding.md R129, 93 U11, U12; entry 7). -/
inductive Turned where
  /-- the step relation does not enable it now (41_bus_arbiter.md R160, R177, R178) -/
  | notEnabled
  /-- `RUN 0` (40_scheduler.md R142) -/
  | runZero
  /-- a word access to an odd address (20_memory.md R85) -/
  | oddAddress
  /-- `IACK l` with l other than `MFP_IPL` (43_mfp.md R340) -/
  | wrongLevel
  /-- `GPIO` on a line driven inside the block (43_mfp.md R306) -/
  | drivenInside
  /-- `INT` of a source that is no chip-internal line (43_mfp.md R309) -/
  | notInternalLine
  /-- DBIN with DIR = 1, DBOUT with DIR = 0 (44_dma.md R396, R400) -/
  | wrongDirection
  /-- RESTORE of a dump whose shape does not fit (60_exceptions.md R501) -/
  | dumpShape
  /-- bytes that are no operation of the block (30_encoding.md R129) -/
  | undecodable
deriving DecidableEq, Repr

/-- The results the block gives (10_state.md R72, 60_exceptions.md R480). -/
inductive Report where
  /-- the result of RD.B or RD.W -/
  | data (w : Width) (v : Word)
  /-- code 1, with the vector the CPU core takes it through (R481) -/
  | busError (unit : Master) (a : Addr) (dir : Dir) (vector : Byte)
  /-- code 0: the answer to IACK (43_mfp.md R340) -/
  | vectored (vector : Byte) (level : BitVec 3)
  /-- code 2 (R488) -/
  | spurious (vector : Byte) (level : BitVec 3)
  /-- the answer to DBOUT (44_dma.md R400, R401) -/
  | diskByte (b : Option Byte)
  /-- the answer to SNAP (R500) -/
  | dump (d : Dump)
  /-- a command that was refused, with no effect -/
  | turned (why : Turned)
deriving DecidableEq, Repr

/-- A command the environment has issued: what it is, and how many internal steps that are enabled pass
before it is taken (41_bus_arbiter.md R160, R178; entry 5). -/
structure Request where
  packet : Packet
  after  : Nat
deriving DecidableEq, Repr

/-- The environment's answers still to come, and the counters the free values are applied to (entries 10, 11). -/
structure Env where
  samples    : List Word
  ctrl       : List Word
  ext        : List Word
  draws      : Nat
  coldResets : Nat
deriving DecidableEq, Repr

/-- The output streams of 10_state.md R72, in the order the records were made (entry 12). A trace record
carries the value of `now` it was made at (60_exceptions.md R504), a video record the value of `ptr` (45_video.md
R440, entry 40). -/
structure Out where
  trace   : List (Nat × TraceRec)
  video   : List (Nat × VideoRec)
  samples : List Word
  devices : List DeviceRec
  reports : List Report
deriving DecidableEq, Repr

/-- RAM: the bytes that have been written, by address (10_state.md R28). An address that is not listed holds
no written value and reads its free power-on contents (entry 10). -/
abbrev Memory := List Host.Cell

/-- The state of the block (10_state.md). -/
structure State where
  cfg   : Config
  sched : Sched
  bus   : Bus
  owner : Master
  mem   : Memory
  blit  : Blit
  mfp   : Mfp
  dma   : Dma
  vid   : Vid
  snd   : Snd
  env   : Env
  out   : Out
  inbox : List Request
deriving DecidableEq, Repr

/-- Why the machine stops with a fault. -/
inductive Fault where
  /-- Raised by ADVANCE when its loop of FIRE steps (40_scheduler.md R144) has not ended after
  `10 * (now + 2)` firings, which needs a configuration that breaks its own constraints (a line or a sample
  period of 0 ticks): the spec's loop then never ends and gives no next state. SAFE: the machine stops
  (entry 25). -/
  | advanceDoesNotEnd
deriving DecidableEq, Repr

/-- Why the machine has no meaning for an instruction. -/
inductive Refusal where
  /-- Raised by an arm of `exec` whose instruction has no meaning yet; none is left. SAFE. -/
  | notModelled (mnemonic : String)
deriving DecidableEq, Repr

/-- A slot at reset (10_state.md R23). -/
def Slot.reset : Slot := ⟨none, 0, true⟩

/-- Every slot `NEVER` (70_reset_and_hazards.md R522 step 1). -/
def Slots.reset : Slots :=
  ⟨Slot.reset, Slot.reset, Slot.reset, Slot.reset, Slot.reset,
   Slot.reset, Slot.reset, Slot.reset, Slot.reset, Slot.reset⟩

/-- The arbiter's registers at reset (10_state.md R24 to R27). -/
def Bus.reset : Bus := ⟨0, 0, ⟨0, 0, .word, .read, .cpu⟩, 0, 0⟩

/-- The blitter at reset (10_state.md R29 to R39): all 0. -/
def Blit.reset : Blit where
  halftone := Vector.replicate 16 0
  srcXinc := 0
  srcYinc := 0
  dstXinc := 0
  dstYinc := 0
  srcAddr := 0
  dstAddr := 0
  endmask1 := 0
  endmask2 := 0
  endmask3 := 0
  yCount := 0
  xCount := 0
  xReload := 0
  hop := 0
  op := 0
  busy := false
  hog := false
  smudge := false
  line := 0
  fxsr := false
  skew := 0
  rsv6 := false
  srcbuf := 0
  phase := 0
  dlatch := 0
  request := false
  done := false
  timeout := 0
  windows := 0

/-- A timer at reset: stopped, all 0 (10_state.md R49 to R52). -/
def Timer.reset : Timer := ⟨0, 0, 0, 0⟩

/-- The external lines at reset (10_state.md R40, 70_reset_and_hazards.md R522 step 3). -/
def extAtReset (c : Config) : Byte :=
  c.extReset &&& ~~~((1 : Byte) <<< c.blitGpio.toNat) &&& ~~~((1 : Byte) <<< c.dmaGpio.toNat)

/-- The MFP at reset (10_state.md R40 to R53). -/
def Mfp.reset (c : Config) : Mfp where
  ext := extAtReset c
  gpipOut := 0
  aer := 0
  ddr := 0
  ier := 0
  ipr := 0
  isr := 0
  imr := 0
  vr := 0
  ta := Timer.reset
  tb := Timer.reset
  tc := Timer.reset
  td := Timer.reset
  tai := false
  tbi := false

/-- The DMA engine at reset (10_state.md R54 to R61). -/
def Dma.reset : Dma where
  mode := 0
  sectorCount := 0
  byteCnt := 0
  err := false
  buf0 := Vector.replicate 16 0
  buf1 := Vector.replicate 16 0
  active := 0
  idx := 0
  otherFull := false
  addr := 0

/-- The video unit before `video_reset` latches the first line's bounds (10_state.md R62 to R69). -/
def Vid.blank : Vid where
  sync := 0
  palette := Vector.replicate 16 0
  shiftMode := 0
  hscroll := 0
  line := 0
  lineStart := 0
  bounds := ⟨0, 0, 0, 0, false⟩
  de := false

/-- The sound unit at reset (10_state.md R70, R71). -/
def Snd.reset : Snd := ⟨[], 0, false, 0⟩

/-- No output yet (entry 12). -/
def Out.empty : Out := ⟨[], [], [], [], []⟩

/-- The environment with no answer fixed (entry 11). -/
def Env.empty : Env := ⟨[], [], [], 0, 0⟩

/-- The machine right after a cold reset under the default configuration (70_reset_and_hazards.md R520,
R522, R523): `now` = 0; the two `schedule` calls of `video_reset` have armed VID_LINE at 508 and VID_HB at
372 (NTSC_60, line 0 has no fetch window) and left `seq_next` = 2 (V52); the lines read 0xD7; RAM is not
listed. The model's own fields are empty (entries 5, 11, 12). -/
def State.reset : State where
  cfg := Config.default
  sched := ⟨0, 2, { Slots.reset with vidLine := ⟨some 508, 0, true⟩, vidHb := ⟨some 372, 1, true⟩ }⟩
  bus := Bus.reset
  owner := .cpu
  mem := []
  blit := Blit.reset
  mfp := Mfp.reset Config.default
  dma := Dma.reset
  vid := { Vid.blank with bounds := ⟨508, 52, 372, 372, false⟩ }
  snd := Snd.reset
  env := Env.empty
  out := Out.empty
  inbox := []

end Sys2Proof.Machine
end

