-- ==== Sys2Proof/Machine/Flags.lean ====
section
/-! DEFINITION. What the spec computes from the state without changing it: the interrupt output
(43_mfp.md R338), the live timer counters (R331), the GPIP read value (R280), the DMA's wish for the bus and
its status (44_dma.md R383, R403), the position of a blit word (42_blitter.md R220, R221, R239), the video
mode and the scanline pointer (45_video.md R430, R440), and the step relation: which internal step is enabled
(41_bus_arbiter.md R160). -/

namespace Sys2Proof.Machine

/-! ### Scheduler -/

/-- The slot of the state with an id. -/
def State.slot (s : State) (id : SlotId) : Slot := slotGet s.sched.slots id

/-- `slot[id].due <= now` (40_scheduler.md R145). -/
def slotIsDue (s : State) (id : SlotId) : Bool :=
  match (s.slot id).due with
  | some d => decide (d ≤ s.sched.now)
  | none => false

/-- FIRE is enabled: some slot is due (R145, R160). -/
def fireEnabled (s : State) : Bool := slotIds.any (slotIsDue s)

/-- `(due, seq)` of the first slot is lexicographically less than that of the second (R145). -/
def earlier (a b : Slot) : Bool :=
  match a.due, b.due with
  | some x, some y => decide (x < y) || (decide (x = y) && decide (a.seq < b.seq))
  | _, _ => false

/-- The due slot with the least `(due, seq)` (R145); of slots with equal pairs, which no run from reset
reaches, the first in the order of R23 (entry 32). -/
def leastDue (s : State) : Option SlotId :=
  slotIds.foldl (fun best id =>
    if slotIsDue s id then
      match best with
      | none => some id
      | some b => if earlier (s.slot id) (s.slot b) then some id else some b
    else best) none

/-! ### Disk DMA -/

/-- `DIR = MODE[8]` (10_state.md R54): true is memory to disk. -/
def dmaDir (d : Dma) : Bool := d.mode.getLsbD 8

/-- `MODE.SC_SEL`, bit 4 (R54). -/
def dmaScSel (d : Dma) : Bool := d.mode.getLsbD 4

/-- `MODE.CA`, bits 2:1 (R54). -/
def dmaCa (d : Dma) : BitVec 2 := d.mode.extractLsb' 1 2

/-- `dma_wants_bus` (44_dma.md R403). -/
def dmaWantsBus (s : State) : Bool :=
  s.dma.sectorCount != 0 && (s.dma.otherFull == !dmaDir s.dma)

/-- STATUS: `zext_16(NMS ++ ERR)` (44_dma.md R383). -/
def dmaStatus (d : Dma) : Word :=
  (bit1 (d.sectorCount == 0) ++ bit1 d.err : BitVec 2).setWidth 16

/-- `buf[active]`, the controller-side buffer (10_state.md R59). -/
def activeBuf (d : Dma) : Vector Byte 16 := if d.active = 0 then d.buf0 else d.buf1

/-- `buf[1 - active]`, the memory-side buffer (R59). -/
def otherBuf (d : Dma) : Vector Byte 16 := if d.active = 0 then d.buf1 else d.buf0

/-! ### The step relation -/

/-- The internal step the step relation enables, in the priority of 41_bus_arbiter.md R160; none when a CPU
command is enabled. -/
def pendingStep (s : State) : Option InternalStep :=
  if fireEnabled s then some .fire
  else
    match s.owner with
    | .dma => some .dmaWord
    | .blit => some .blitPhase
    | .cpu =>
      if dmaWantsBus s then some .grantDma
      else if s.blit.request then some .grantBlit
      else none

/-- CPU commands are enabled (41_bus_arbiter.md R177). -/
def cpuEnabled (s : State) : Bool := pendingStep s == none

/-! ### Blitter -/

/-- `first` (42_blitter.md R220). -/
def blitFirst (b : Blit) : Bool := b.xCount == b.xReload

/-- `last` (R220). -/
def blitLast (b : Blit) : Bool := b.xCount == 1

/-- `mask` (R220): first word, last word, middle word, in that order. -/
def blitMask (b : Blit) : Word :=
  if blitFirst b then b.endmask1 else if blitLast b then b.endmask3 else b.endmask2

/-- `uses_dest(OP)`: every OP except 0, 3, 12 and 15 (R239). -/
def usesDest (op : BitVec 4) : Bool := !(op == 0 || op == 3 || op == 12 || op == 15)

/-- `do_prime` (R221). -/
def doPrime (b : Blit) : Bool := b.fxsr && blitFirst b

/-- `do_rdest` (R221). -/
def doRdest (b : Blit) : Bool := blitMask b != 0xFFFF || usesDest b.op

/-- `k`, the transactions of a window (R221). -/
def windowTransactions (b : Blit) : Nat :=
  (if doPrime b then 1 else 0) + 1 + (if doRdest b then 1 else 0) + 1

/-- The skewed source word `s` (R225). -/
def skewedSource (b : Blit) : Word := (b.srcbuf >>> b.skew.toNat).setWidth 16

/-- The halftone word `h` (R226). -/
def halftoneWord (b : Blit) : Word :=
  tableGet b.halftone (if b.smudge then (skewedSource b).extractLsb' 0 4 else b.line)

/-- CTRL as it is read: `BUSY ++ HOG ++ SMUDGE ++ 0 ++ LINE` (R208). -/
def blitCtrl (b : Blit) : Byte := bit1 b.busy ++ bit1 b.hog ++ bit1 b.smudge ++ (0 : BitVec 1) ++ b.line

/-- SKEW as it is read: `FXSR ++ RSV6 ++ 0b00 ++ SKEW` (R210). -/
def blitSkewReg (b : Blit) : Byte := bit1 b.fxsr ++ bit1 b.rsv6 ++ (0 : BitVec 2) ++ b.skew

/-! ### MFP -/

/-- GPIP as it is read: bit i is `DDR[i] ? gpip_out[i] : ext[i]` (43_mfp.md R280). -/
def gpipValue (m : Mfp) : Byte := (m.ddr &&& m.gpipOut) ||| (~~~m.ddr &&& m.ext)

/-- `VR.S`, bit 3 (10_state.md R48). -/
def vrS (m : Mfp) : Bool := m.vr.getLsbD 3

/-- `blocked(s)` (43_mfp.md R338): in service, or, with `ISR_BLOCKS_LOWER`, a higher source in service. -/
def blocked (c : Config) (m : Mfp) (src : BitVec 4) : Bool :=
  m.isr.getLsbD src.toNat || (c.isrBlocksLower && m.isr >>> (src.toNat + 1) != 0)

/-- `eligible(s)` (R338). -/
def eligible (c : Config) (m : Mfp) (src : BitVec 4) : Bool :=
  m.ipr.getLsbD src.toNat && m.imr.getLsbD src.toNat && !blocked c m src

/-- The sources from 15, the highest priority, down (10_state.md R43). -/
def sourcesDown : List (BitVec 4) := [15, 14, 13, 12, 11, 10, 9, 8, 7, 6, 5, 4, 3, 2, 1, 0]

/-- The greatest eligible source (43_mfp.md R340). -/
def greatestEligible (c : Config) (m : Mfp) : Option (BitVec 4) := sourcesDown.find? (eligible c m)

/-- `irq_out` (R338). -/
def irqOut (s : State) : Bool := sourcesDown.any (eligible s.cfg s.mfp)

/-- The record of a timer. -/
def State.timer (s : State) (id : TimerId) : Timer := timerGet s.mfp id

/-- `cnt` and `res` of a timer: while it runs in a delay mode, the function of due time and `now` of
43_mfp.md R331; else the stored values. R331 states them for `due > now` only: elsewhere they are a free
value (entry 15). -/
def liveCounter (s : State) (id : TimerId) : Byte × Nat :=
  match timerClass (s.timer id).ctrl with
  | .delay p =>
    match (s.slot (timerSlot id)).due with
    | some d =>
      if s.sched.now < d then
        let left := d - s.sched.now
        (BitVec.ofNat 8 (ceilDiv left p), left - (ceilDiv left p - 1) * p)
      else Config.lateCounter s.sched.now (some d)
    | none => Config.lateCounter s.sched.now none
  | _ => ((s.timer id).cnt, (s.timer id).res)

/-! ### Video -/

/-- The video mode (45_video.md R430). -/
def videoMode (v : Vid) : VideoMode :=
  if 2 ≤ v.shiftMode.toNat then .mono71 else if v.sync.getLsbD 1 then .pal50 else .ntsc60

/-- `x = now - line_start`, the position in the line (R433). Where `line_start` is later than `now`, which only a
RESTORE of a dump that is inconsistent in the way of 93 U10 brings about, the spec states no position: `x` is a
free value there, and `ptr` and the records of `video_sink` are formed from it. DESIGN CHOICE (entry 38). -/
def linePos (s : State) : Nat :=
  if s.vid.lineStart ≤ s.sched.now then s.sched.now - s.vid.lineStart
  else Config.posBeforeLine s.sched.now s.vid.lineStart

/-- `ptr`, the scanline byte-position pointer (R440). -/
def scanPtr (s : State) : Nat :=
  let b := s.vid.bounds
  let x := linePos s
  if b.pic = false ∨ x < b.winStart then 0
  else if x < b.winEnd then 2 * ((x - b.winStart) / 4)
  else (b.winEnd - b.winStart) / 2

end Sys2Proof.Machine
end

