-- ==== Sys2Proof/Machine/Ops.lean ====
section
/-! DEFINITION. The named operations every unit uses: the output streams (10_state.md R72), the scheduler
call (40_scheduler.md R143), cost accounting (41_bus_arbiter.md R169), RAM (10_state.md R28), the
environment's answers (20_memory.md R86, 44_dma.md R385, 45_video.md R455), the interrupt lines
(43_mfp.md R305 to R310), and the outcomes of 60_exceptions.md R480: taking a bus error, dispatching an
interrupt, the spurious answer, and ending a service. -/

namespace Sys2Proof.Machine

/-! ### Replacing one part of the state -/

/-- The state with the scheduler replaced. -/
def State.withSched (s : State) (x : Sched) : State := { s with sched := x }
/-- The state with the arbiter's registers replaced. -/
def State.withBus (s : State) (x : Bus) : State := { s with bus := x }
/-- The state with the bus owner replaced. -/
def State.withOwner (s : State) (x : Master) : State := { s with owner := x }
/-- The state with the RAM replaced. -/
def State.withMem (s : State) (x : Memory) : State := { s with mem := x }
/-- The state with the blitter replaced. -/
def State.withBlit (s : State) (x : Blit) : State := { s with blit := x }
/-- The state with the MFP replaced. -/
def State.withMfp (s : State) (x : Mfp) : State := { s with mfp := x }
/-- The state with the DMA engine replaced. -/
def State.withDma (s : State) (x : Dma) : State := { s with dma := x }
/-- The state with the video unit replaced. -/
def State.withVid (s : State) (x : Vid) : State := { s with vid := x }
/-- The state with the sound unit replaced. -/
def State.withSnd (s : State) (x : Snd) : State := { s with snd := x }
/-- The state with the environment's answers replaced. -/
def State.withEnv (s : State) (x : Env) : State := { s with env := x }
/-- The state with the output streams replaced. -/
def State.withOut (s : State) (x : Out) : State := { s with out := x }
/-- The state with the waiting commands replaced. -/
def State.withInbox (s : State) (x : List Request) : State := { s with inbox := x }

/-! ### Output streams -/

/-- `trace(e)`: a record with the current `now` (60_exceptions.md R504). -/
def emitTrace (s : State) (e : TraceRec) : State :=
  s.withOut { s.out with trace := s.out.trace ++ [(s.sched.now, e)] }

/-- A record to `video_sink` (45_video.md R462), with the current `ptr` (R440: "`ptr` appears in the snapshot and
in `video_sink` records"; entry 40). -/
def emitVideo (s : State) (e : VideoRec) : State :=
  s.withOut { s.out with video := s.out.video ++ [(scanPtr s, e)] }

/-- A word to `sample_sink` (45_video.md R456). -/
def emitSample (s : State) (w : Word) : State := s.withOut { s.out with samples := s.out.samples ++ [w] }

/-- An access handed to a device outside the block (entry 13). -/
def emitDevice (s : State) (e : DeviceRec) : State := s.withOut { s.out with devices := s.out.devices ++ [e] }

/-- A result given to whoever issued the command (10_state.md R72). -/
def emitReport (s : State) (r : Report) : State := s.withOut { s.out with reports := s.out.reports ++ [r] }

/-- A command that is refused has no effect and no cost (20_memory.md R85, 30_encoding.md R129; entry 7). -/
def turnAway (s : State) (why : Turned) : State := emitReport s (.turned why)

/-! ### Scheduler and cost -/

/-- `schedule(id, t)`; `none` is `NEVER` (40_scheduler.md R141, R143). -/
def schedule (s : State) (id : SlotId) (t : Option Nat) : State :=
  s.withSched { s.sched with
    slots := slotPut s.sched.slots id ⟨t, s.sched.seqNext, true⟩
    seqNext := s.sched.seqNext + 1 }

/-- `slot[id].due <- NEVER` without a call of `schedule` (40_scheduler.md R145, 60_exceptions.md R486). -/
def clearSlot (s : State) (id : SlotId) : State :=
  s.withSched { s.sched with slots := slotPut s.sched.slots id { s.slot id with due := none } }

/-- `now <- now + n` (40_scheduler.md R142). -/
def advanceNow (s : State) (n : Nat) : State := s.withSched { s.sched with now := s.sched.now + n }

/-- `idle(c)`: both counters (41_bus_arbiter.md R169). -/
def chargeIdle (s : State) (c : Nat) : State :=
  (advanceNow s c).withBus { s.bus with cpuIdle := s.bus.cpuIdle + c }

/-- The ticks of a transaction: the CPU's own do not count as its idle time (R169). -/
def charge (s : State) (u : Master) (c : Nat) : State :=
  if u = .cpu then advanceNow s c else chargeIdle s c

/-! ### RAM -/

/-- The written byte at an address, if any. -/
def Memory.get : Memory → Nat → Option Byte
  | [], _ => none
  | (x, b) :: rest, a => if x = a then some b else if a < x then none else Memory.get rest a

/-- The memory with a byte written: addresses stay strictly rising. -/
def Memory.put : Memory → Nat → Byte → Memory
  | [], a, v => [(a, v)]
  | (x, b) :: rest, a, v =>
    if x = a then (a, v) :: rest
    else if a < x then (a, v) :: (x, b) :: rest
    else (x, b) :: Memory.put rest a v

/-- Every address of the list is above `a`, and they rise strictly. -/
def Memory.wfAbove (a : Nat) : Memory → Bool
  | [] => true
  | (x, _) :: rest => decide (a < x) && Memory.wfAbove x rest

/-- The canonical form: addresses strictly rising. An unlisted address holds no written value, so no entry
can equal what it reads as (entry 10). -/
def Memory.wf : Memory → Bool
  | [] => true
  | (x, _) :: rest => Memory.wfAbove x rest

/-- `ram[a]`: the latest byte written, else the free power-on contents (70_reset_and_hazards.md R520, 93 U4). -/
def ramByte (s : State) (a : Nat) : Byte :=
  (s.mem.get a).getD (Config.ramPowerOn s.env.coldResets a)

/-- `ram[a] <- v` (20_memory.md R87). -/
def ramPut (s : State) (a : Nat) (v : Byte) : State := s.withMem (s.mem.put a v)

/-- `ram[a] ++ ram[a+1]` (20_memory.md R84, R86). -/
def ramWord (s : State) (a : Nat) : Word := mkWord (ramByte s a) (ramByte s (a + 1))

/-- `ram[a] <- v[15:8]; ram[a+1] <- v[7:0]` (R84, R87). -/
def ramPutWord (s : State) (a : Nat) (v : Word) : State := ramPut (ramPut s a (hiByte v)) (a + 1) (loByte v)

/-! ### The environment's answers -/

/-- The next word of `sample_source` (45_video.md R455): the one the environment has fixed, else a free
value (entry 11). -/
def drawSample (s : State) : Word × State :=
  match s.env.samples with
  | w :: rest => (w, s.withEnv { s.env with samples := rest })
  | [] => (Config.sampleValue s.env.draws, s.withEnv { s.env with draws := s.env.draws + 1 })

/-- `ctrl_reg_read(CA)` (44_dma.md R385): forwarded to the controller, answered by the environment
(entries 11, 13). -/
def drawCtrl (s : State) (ca : BitVec 2) : Word × State :=
  match s.env.ctrl with
  | w :: rest => (w, emitDevice (s.withEnv { s.env with ctrl := rest }) (.ctrlRead ca))
  | [] => (Config.ctrlValue s.env.draws,
           emitDevice (s.withEnv { s.env with draws := s.env.draws + 1 }) (.ctrlRead ca))

/-- A read of an `EXT` region (20_memory.md R86): a fresh draw, of the width read (entries 11, 13). -/
def drawExt (s : State) (a : Addr) (w : Width) : Word × State :=
  let fit (v : Word) : Word := match w with
    | .byte => byteToWord (loByte v)
    | .word => v
  match s.env.ext with
  | v :: rest => (fit v, emitDevice (s.withEnv { s.env with ext := rest }) (.extRead a w))
  | [] => (fit (Config.extValue s.env.draws),
           emitDevice (s.withEnv { s.env with draws := s.env.draws + 1 }) (.extRead a w))

/-! ### Interrupt lines -/

/-- `mfp_event(s)` (43_mfp.md R310). -/
def mfpEvent (s : State) (src : BitVec 4) : State :=
  if s.mfp.ier.getLsbD src.toNat then
    if s.mfp.ipr.getLsbD src.toNat then emitTrace s (.pendingAgain src)
    else s.withMfp { s.mfp with ipr := putBit s.mfp.ipr src.toNat true }
  else s

/-- `line_edge(i, v)` (43_mfp.md R307). -/
def lineEdge (s : State) (i : BitVec 3) (v : Bool) : State :=
  if s.mfp.ddr.getLsbD i.toNat = false ∧ v = s.mfp.aer.getLsbD i.toNat then mfpEvent s (lineSource i) else s

/-- `set_gpio_bit(i, v)` (43_mfp.md R305). -/
def setGpioBit (s : State) (i : BitVec 3) (v : Bool) : State :=
  let s1 := s.withMfp { s.mfp with ext := putBit s.mfp.ext i.toNat v }
  if s.mfp.ext.getLsbD i.toNat = v then s1 else lineEdge s1 i v

/-- `request_bus(BLIT, c)` (41_bus_arbiter.md R166): `cycles_needed` is not stored. -/
def requestBlit (s : State) : State := s.withBlit { s.blit with request := true }

/-! ### The outcomes of 60_exceptions.md R480 -/

/-- TAKING a bus error (R481, 41_bus_arbiter.md R175): `T_BERR` is charged, and the CPU core receives the
report with the vector it takes it through. The latches and `last_tx`, which describe the failed
transaction, are written by the transaction itself. -/
def takeBusError (s : State) (u : Master) (a : Addr) (d : Dir) : State :=
  charge (emitReport s (.busError u a d s.cfg.busErrorVector)) u s.cfg.tBerr

/-- TAKING an interrupt (43_mfp.md R340): source `src` is dispatched. Its pending bit is cleared, its
in-service bit set when VR.S = 1, and the vector delivered. -/
def takeInterrupt (s : State) (src : BitVec 4) : State :=
  let v := vectorNumber s.mfp.vr src
  let s1 := s.withMfp { s.mfp with
    ipr := putBit s.mfp.ipr src.toNat false
    isr := if vrS s.mfp then putBit s.mfp.isr src.toNat true else s.mfp.isr }
  emitReport (emitTrace s1 (.dispatch src v)) (.vectored v s.cfg.mfpIpl)

/-- The spurious answer (43_mfp.md R340, 60_exceptions.md R488): no state of the block changes. -/
def takeSpurious (s : State) (l : BitVec 3) : State :=
  emitReport (emitTrace s .dispatchSpurious) (.spurious s.cfg.spuriousVector l)

/-- RETURNING from an interrupt, as far as the block goes (60_exceptions.md R487): the handler ends the
service by writing 0 bits to a half of ISR (43_mfp.md R317). -/
def endService (s : State) (isr : Word) : State := s.withMfp { s.mfp with isr := s.mfp.isr &&& isr }

/-- A CPU command takes effect only where the step relation enables it (41_bus_arbiter.md R177). -/
def whenCpu (s : State) (f : State → State) : State :=
  if cpuEnabled s then f s else turnAway s .notEnabled

/-- A command of the environment is taken whenever FIRE is not enabled (41_bus_arbiter.md R178). -/
def whenEnvironment (s : State) (f : State → State) : State :=
  if fireEnabled s then turnAway s .notEnabled else f s

/-- An internal step is taken only where it is the one the step relation enables (41_bus_arbiter.md R160). -/
def whenStep (s : State) (k : InternalStep) (f : State → State) : State :=
  if pendingStep s = some k then f s else turnAway s .notEnabled

end Sys2Proof.Machine
end

