-- ==== Sys2Proof/Machine/Blitter.lean ====
section
/-! DEFINITION. The block transfer engine (42_blitter.md): the register rules R200 to R210, start, restart and
abort R211 to R213, the shift buffer R238, the halftone operations R240 to R243, the logic operations R244 to
R259, and what follows a window R229 to R234 (the bus transactions of the phases stand in
Machine/Arbiter.lean). -/

namespace Sys2Proof.Machine

/-- The phase codes of 10_state.md R38. -/
def phaseIdle : BitVec 3 := 0
/-- PRIME. -/
def phasePrime : BitVec 3 := 1
/-- READ_SOURCE. -/
def phaseReadSource : BitVec 3 := 2
/-- READ_DEST. -/
def phaseReadDest : BitVec 3 := 3
/-- WRITE_DEST. -/
def phaseWriteDest : BitVec 3 := 4

/-! ### Halftone operations (30_encoding.md R121) -/

/-- HOP_ONES (42_blitter.md R240). -/
def hopOnes (_s _h : Word) : Word := 0xFFFF
/-- HOP_HALFTONE (R241). -/
def hopHalftone (_s h : Word) : Word := h
/-- HOP_SOURCE (R242). -/
def hopSource (s _h : Word) : Word := s
/-- HOP_SRC_AND_HT (R243). -/
def hopSrcAndHt (s h : Word) : Word := s &&& h

/-- `hop(HOP, s, h)` (R228). -/
def hopValue (hop : BitVec 2) (s h : Word) : Word :=
  if hop = 0 then hopOnes s h
  else if hop = 1 then hopHalftone s h
  else if hop = 2 then hopSource s h
  else hopSrcAndHt s h

/-! ### Logic operations (30_encoding.md R120) -/

/-- OP_ZERO (42_blitter.md R244). -/
def opZero (_x _d : Word) : Word := 0
/-- OP_AND (R245). -/
def opAnd (x d : Word) : Word := x &&& d
/-- OP_AND_NOTD (R246). -/
def opAndNotd (x d : Word) : Word := x &&& ~~~d
/-- OP_SRC (R247). -/
def opSrc (x _d : Word) : Word := x
/-- OP_NOTS_AND (R248). -/
def opNotsAnd (x d : Word) : Word := ~~~x &&& d
/-- OP_DST (R249). -/
def opDst (_x d : Word) : Word := d
/-- OP_XOR (R250). -/
def opXor (x d : Word) : Word := x ^^^ d
/-- OP_OR (R251). -/
def opOr (x d : Word) : Word := x ||| d
/-- OP_NOR (R252). -/
def opNor (x d : Word) : Word := ~~~x &&& ~~~d
/-- OP_XNOR (R253). -/
def opXnor (x d : Word) : Word := ~~~(x ^^^ d)
/-- OP_NOTD (R254). -/
def opNotd (_x d : Word) : Word := ~~~d
/-- OP_OR_NOTD (R255). -/
def opOrNotd (x d : Word) : Word := x ||| ~~~d
/-- OP_NOTS (R256). -/
def opNots (x _d : Word) : Word := ~~~x
/-- OP_NOTS_OR (R257). -/
def opNotsOr (x d : Word) : Word := ~~~x ||| d
/-- OP_NAND (R258). -/
def opNand (x d : Word) : Word := ~~~x ||| ~~~d
/-- OP_ONE (R259). -/
def opOne (_x _d : Word) : Word := 0xFFFF

/-- `lop(OP, x, d)` (R228): the operation the 4-bit code names (30_encoding.md R120). -/
def logicOp (op : BitVec 4) (x d : Word) : Word :=
  if op = 0 then opZero x d
  else if op = 1 then opAnd x d
  else if op = 2 then opAndNotd x d
  else if op = 3 then opSrc x d
  else if op = 4 then opNotsAnd x d
  else if op = 5 then opDst x d
  else if op = 6 then opXor x d
  else if op = 7 then opOr x d
  else if op = 8 then opNor x d
  else if op = 9 then opXnor x d
  else if op = 10 then opNotd x d
  else if op = 11 then opOrNotd x d
  else if op = 12 then opNots x d
  else if op = 13 then opNotsOr x d
  else if op = 14 then opNand x d
  else opOne x d

/-! ### One destination word -/

/-- `shift_in(w)` (R238). -/
def shiftIn (b : Blit) (w : Word) : Blit :=
  { b with srcbuf :=
      if b.srcXinc.msb then (b.srcbuf >>> 16) ||| (w.setWidth 32 <<< 16)
      else (b.srcbuf <<< 16) ||| w.setWidth 32 }

/-- `out` (R228): the combined word under the end mask. -/
def blitOut (b : Blit) : Word :=
  let x := hopValue b.hop (skewedSource b) (halftoneWord b)
  let r := logicOp b.op x b.dlatch
  (r &&& blitMask b) ||| (b.dlatch &&& ~~~blitMask b)

/-- A change of phase, traced (R222, 60_exceptions.md R504). -/
def toPhase (s : State) (p : BitVec 3) : State :=
  emitTrace (s.withBlit { s.blit with phase := p }) (.blitPhase s.blit.phase p)

/-! ### Start, restart, abort, end -/

/-- Start of a blit (R211). -/
def blitStart (s : State) : State :=
  let s1 := s.withBlit { s.blit with
    busy := true, done := false, windows := 0, phase := phaseIdle, timeout := s.cfg.blitSlice }
  requestBlit (setGpioBit s1 s1.cfg.blitGpio true)

/-- Restart (R212). -/
def blitRestart (s : State) : State :=
  let s1 := schedule s .blitResume none
  requestBlit (s1.withBlit { s1.blit with timeout := s1.cfg.blitSlice })

/-- Abort (R213). -/
def blitAbort (s : State) : State :=
  let s1 := s.withBlit { s.blit with busy := false, request := false, phase := phaseIdle }
  setGpioBit (schedule s1 .blitResume none) s1.cfg.blitGpio false

/-- CTRL, write (R209). -/
def writeBlitCtrl (s : State) (v : Byte) : State :=
  let s1 := s.withBlit { s.blit with
    hog := v.getLsbD 6, smudge := v.getLsbD 5, line := v.extractLsb' 0 4 }
  if v.getLsbD 7 then
    if s.blit.busy then blitRestart s1 else blitStart s1
  else if s.blit.busy then blitAbort s1 else s1

/-- Cooperative yield (R233). -/
def blitYield (s : State) : State :=
  let s1 := s.withBlit { s.blit with request := false }
  schedule s1 .blitResume (some (s1.sched.now + s1.cfg.cpuSlice))

/-- Next window (R232). -/
def nextWindow (s : State) : State :=
  if s.blit.hog = true ∨ 0 < s.blit.timeout then requestBlit s else blitYield s

/-- Termination (R231). -/
def blitTerminate (s : State) : State :=
  let s1 := s.withBlit { s.blit with busy := false, done := true, request := false, phase := phaseIdle }
  setGpioBit (s1.withOwner .cpu) s1.cfg.blitGpio false

/-- Line end (R230). -/
def lineEnd (s : State) : State :=
  let s1 := s.withBlit { s.blit with
    xCount := s.blit.xReload, line := s.blit.line + 1, yCount := s.blit.yCount - 1 }
  if s1.blit.yCount = 0 then blitTerminate s1 else nextWindow s1

/-- Callback of BLIT_RESUME (R234). -/
def blitResume (s : State) : State :=
  if s.blit.busy = true ∧ s.blit.request = false then
    requestBlit (s.withBlit { s.blit with timeout := s.cfg.blitSlice })
  else s

/-- The blitter put to idle (60_exceptions.md R486; the fail-safe of 42_blitter.md R236). -/
def blitToIdle (s : State) : State :=
  let s1 := s.withBlit { s.blit with busy := false, phase := phaseIdle, request := false }
  let s2 := clearSlot s1 .blitResume
  let s3 := s2.withMfp { s2.mfp with ext := putBit s2.mfp.ext s2.cfg.blitGpio.toNat false }
  let s4 := if s3.owner = .blit then s3.withOwner .cpu else s3
  emitTrace s4 (.invalidState .blitter)

/-! ### Register rules -/

/-- HALFTONE[n], write (R200). -/
def writeHalftone (s : State) (n : BitVec 4) (v : Word) : State :=
  s.withBlit { s.blit with halftone := tablePut s.blit.halftone n v }

/-- SRC_XINC, write (R201): bit 0 hardwired 0. -/
def writeSrcXinc (s : State) (v : Word) : State := s.withBlit { s.blit with srcXinc := evenWord v }
/-- SRC_YINC, write (R201). -/
def writeSrcYinc (s : State) (v : Word) : State := s.withBlit { s.blit with srcYinc := evenWord v }
/-- DST_XINC, write (R201). -/
def writeDstXinc (s : State) (v : Word) : State := s.withBlit { s.blit with dstXinc := evenWord v }
/-- DST_YINC, write (R201). -/
def writeDstYinc (s : State) (v : Word) : State := s.withBlit { s.blit with dstYinc := evenWord v }

/-- SRC_ADDR, write (R202): 32 bits, of which those from `ADDR_BITS` on do not exist and bit 0 is hardwired 0. -/
def writeSrcAddr (s : State) (v : BitVec 32) : State :=
  s.withBlit { s.blit with srcAddr := addrReg s.cfg v }
/-- DST_ADDR, write (R202). -/
def writeDstAddr (s : State) (v : BitVec 32) : State :=
  s.withBlit { s.blit with dstAddr := addrReg s.cfg v }

/-- ENDMASK1, write (R203). -/
def writeEndmask1 (s : State) (v : Word) : State := s.withBlit { s.blit with endmask1 := v }
/-- ENDMASK2, write (R203). -/
def writeEndmask2 (s : State) (v : Word) : State := s.withBlit { s.blit with endmask2 := v }
/-- ENDMASK3, write (R203). -/
def writeEndmask3 (s : State) (v : Word) : State := s.withBlit { s.blit with endmask3 := v }

/-- X_COUNT, write (R204): the reload latch too. -/
def writeXCount (s : State) (v : Word) : State := s.withBlit { s.blit with xCount := v, xReload := v }
/-- Y_COUNT, write (R205). -/
def writeYCount (s : State) (v : Word) : State := s.withBlit { s.blit with yCount := v }

/-- HOP, write (R206). -/
def writeHop (s : State) (v : Byte) : State := s.withBlit { s.blit with hop := v.extractLsb' 0 2 }
/-- OP, write (R207). -/
def writeOp (s : State) (v : Byte) : State := s.withBlit { s.blit with op := v.extractLsb' 0 4 }
/-- SKEW, write (R210). -/
def writeSkew (s : State) (v : Byte) : State :=
  s.withBlit { s.blit with fxsr := v.getLsbD 7, rsv6 := v.getLsbD 6, skew := v.extractLsb' 0 4 }

end Sys2Proof.Machine
end

