-- ==== Sys2Proof/Machine/DiskDma.lean ====
section
/-! DEFINITION. The disk DMA engine (44_dma.md): the register rules R381 to R386, the engine reset R382, the
controller side R396 to R401 with the meanings of DBIN and DBOUT, and the memory side's bookkeeping of R404
and R405 (the bus transaction of a word stands in Machine/Arbiter.lean). -/

namespace Sys2Proof.Machine

/-- `line_update` (44_dma.md R411). -/
def lineUpdate (s : State) : State := setGpioBit s s.cfg.dmaGpio (s.dma.sectorCount != 0)

/-- The registers of `engine_reset` (R382): everything but MODE and `dma_addr`. -/
def engineIdle (d : Dma) : Dma :=
  { d with
    sectorCount := 0
    byteCnt := 0
    err := false
    buf0 := Vector.replicate 16 0
    buf1 := Vector.replicate 16 0
    active := 0
    otherFull := false
    idx := if dmaDir d then 16 else 0 }

/-- `engine_reset` (R382). -/
def engineReset (s : State) : State := lineUpdate (s.withDma (engineIdle s.dma))

/-- MODE, write (R381): a change of direction resets the engine. -/
def writeDmaMode (s : State) (v : Word) : State :=
  let s1 := s.withDma { s.dma with mode := v }
  if v.getLsbD 8 = dmaDir s.dma then s1 else engineReset s1

/-- The sector counter, write (R384). -/
def writeSectorCount (s : State) (v : Byte) : State :=
  lineUpdate (s.withDma { s.dma with sectorCount := v })

/-- DATA, write (R384, R385): SC_SEL selects the sector counter or the external controller. -/
def writeDmaData (s : State) (v : Word) : State :=
  if dmaScSel s.dma then writeSectorCount s (loByte v)
  else emitDevice s (.ctrlWrite (dmaCa s.dma) v)

/-- DATA, read (R384, R385). -/
def readDmaData (s : State) : Word × State :=
  if dmaScSel s.dma then (byteToWord s.dma.sectorCount, s) else drawCtrl s (dmaCa s.dma)

/-- `dma_addr` written: "bits at or above `ADDR_BITS` do not exist", bit 0 forced to 0 (R386). -/
def putDmaAddr (s : State) (a : Addr) : State := s.withDma { s.dma with addr := addrReg s.cfg a }

/-- ADDR_HI, write (R386): the other bytes keep their value. -/
def writeAddrHi (s : State) (v : Byte) : State :=
  putDmaAddr s (addrTop s.dma.addr ++ v ++ addrMid s.dma.addr ++ addrLo s.dma.addr)

/-- ADDR_MID, write (R386). -/
def writeAddrMid (s : State) (v : Byte) : State :=
  putDmaAddr s (addrTop s.dma.addr ++ addrHi s.dma.addr ++ v ++ addrLo s.dma.addr)

/-- ADDR_LO, write (R386): bit 0 forced to 0. -/
def writeAddrLo (s : State) (v : Byte) : State :=
  putDmaAddr s (addrTop s.dma.addr ++ addrHi s.dma.addr ++ addrMid s.dma.addr ++ v)

/-- `try_swap` (R398). -/
def trySwap (d : Dma) : Dma :=
  if d.idx = 16 ∧ d.otherFull = dmaDir d then
    { d with active := 1 - d.active, idx := 0, otherFull := !dmaDir d }
  else d

/-- `buf[active]` replaced. -/
def putActiveBuf (d : Dma) (b : Vector Byte 16) : Dma :=
  if d.active = 0 then { d with buf0 := b } else { d with buf1 := b }

/-- `buf[1 - active]` replaced. -/
def putOtherBuf (d : Dma) (b : Vector Byte 16) : Dma :=
  if d.active = 0 then { d with buf1 := b } else { d with buf0 := b }

/-- `if idx = 16: try_swap` (R396, R400), after `idx` has gone up. -/
def swapIfDone (d : Dma) : Dma := if d.idx = 16 then trySwap d else d

/-- A byte from the disk controller (R396, R397). -/
def diskIn (s : State) (b : Byte) : State :=
  if dmaDir s.dma then turnAway s .wrongDirection
  else if s.dma.sectorCount = 0 then s
  else if s.dma.idx = 16 then s.withDma { s.dma with err := true }
  else
    let d := putActiveBuf s.dma (bufPut (activeBuf s.dma) s.dma.idx b)
    s.withDma (swapIfDone { d with idx := d.idx + 1 })

/-- A byte for the disk controller (R400, R401). -/
def diskOut (s : State) : State :=
  if dmaDir s.dma = false then turnAway s .wrongDirection
  else if s.dma.idx = 16 then emitReport (s.withDma { s.dma with err := true }) (.diskByte none)
  else
    let b := bufGet (activeBuf s.dma) (15 - s.dma.idx)
    emitReport (s.withDma (swapIfDone { s.dma with idx := s.dma.idx + 1 })) (.diskByte (some b))

/-- `j`, the number of the word in the burst (R404). -/
def burstWord (s : State) : Nat := 8 - s.bus.burstLeft

/-- The word of a disk-to-memory transaction (R404). -/
def burstData (d : Dma) (j : Nat) : Word :=
  mkWord (bufGet (otherBuf d) (2 * j)) (bufGet (otherBuf d) (2 * j + 1))

/-- `place(j, w)` (R405): the fill order is reversed. -/
def placeWord (d : Dma) (j : Nat) (w : Word) : Dma :=
  putOtherBuf d (bufPut (bufPut (otherBuf d) (15 - 2 * j) (hiByte w)) (14 - 2 * j) (loByte w))

/-- The counters at the end of a burst (R404): 16 more bytes, and one sector less at 512. -/
def countBurst (s : State) : State :=
  let s1 := s.withDma { s.dma with otherFull := dmaDir s.dma, byteCnt := s.dma.byteCnt + 16 }
  if s1.dma.byteCnt = 512 then
    lineUpdate (s1.withDma { s1.dma with byteCnt := 0, sectorCount := s1.dma.sectorCount - 1 })
  else s1

/-- The end of a burst (R404): the counters, the trace record, the release of the bus, the swap. -/
def endBurst (s : State) : State :=
  let s1 := countBurst s
  let s2 := emitTrace s1 (.dmaBurstComplete s1.dma.addr s1.dma.sectorCount)
  (s2.withOwner .cpu).withDma (trySwap s2.dma)

/-- What follows the transaction of a word (R404). -/
def afterWord (s : State) : State :=
  let s1 := s.withDma { s.dma with addr := stepAddr s.cfg s.dma.addr 2 }
  let s2 := s1.withBus { s1.bus with burstLeft := s1.bus.burstLeft - 1 }
  if s2.bus.burstLeft = 0 then endBurst s2 else s2

/-! ### Meanings -/

/-- DBIN b (44_dma.md R396). -/
def execDbin (b : Byte) (s : State) : Host.Outcome State Fault Refusal :=
  .next <| whenEnvironment s fun s => diskIn s b

/-- DBOUT (44_dma.md R400). -/
def execDbout (s : State) : Host.Outcome State Fault Refusal :=
  .next <| whenEnvironment s fun s => diskOut s

end Sys2Proof.Machine
end

