-- ==== Sys2Proof/Machine/Interrupts.lean ====
section
/-! DEFINITION. The timer and interrupt controller (43_mfp.md): its register rules R280 to R290, the timers
R320 to R332, the event inputs R335, and the meanings of IACK, GPIO, INT, TAI and SET_GPIO_BIT. -/

namespace Sys2Proof.Machine

/-! ### Timers -/

/-- The state with the record of one timer replaced. -/
def setTimer (s : State) (id : TimerId) (t : Timer) : State := s.withMfp (timerPut s.mfp id t)

/-- A timer starts in a delay mode from the count `n`: the prescaler starts full and the underflow is due
`n * p` ticks from now (43_mfp.md R330). `cnt` and `res` are not stored while it runs (R51, R52, entry 14). -/
def startDelay (s : State) (id : TimerId) (m : BitVec 4) (n p : Nat) : State :=
  schedule (setTimer s id { s.timer id with ctrl := m, cnt := 0, res := 0 }) (timerSlot id)
    (some (s.sched.now + n * p))

/-- A timer stops, or counts events: the counters are frozen at their live values and stored, and the slot
is `NEVER` (43_mfp.md R330). -/
def freezeTimer (s : State) (id : TimerId) (m : BitVec 4) : State :=
  let live := liveCounter s id
  schedule (setTimer s id { s.timer id with ctrl := m, cnt := live.1, res := live.2 }) (timerSlot id) none

/-- `set_mode(T, m)` (43_mfp.md R330). -/
def setMode (s : State) (id : TimerId) (m : BitVec 4) : State :=
  match timerClass m with
  | .delay p' =>
    if timerClass (s.timer id).ctrl = .delay p' then setTimer s id { s.timer id with ctrl := m }
    else startDelay s id m (timerValue (liveCounter s id).1) p'
  | _ => freezeTimer s id m

/-- `underflow(T, t)` (43_mfp.md R332): the occurrence, and the next period measured from `t`. A timer in no
delay mode has no P: it is a free divider (entry 16). -/
def underflow (s : State) (id : TimerId) (t : Nat) : State :=
  let s1 := mfpEvent s (timerSource id)
  match timerClass (s1.timer id).ctrl with
  | .delay p => schedule s1 (timerSlot id) (some (t + timerValue (s1.timer id).data * p))
  | _ =>
    schedule (s1.withEnv { s1.env with draws := s1.env.draws + 1 }) (timerSlot id)
      (some (t + timerValue (s1.timer id).data * (Config.strayDivider s1.env.draws + 1)))

/-- The level kept for the event input of timer A or B (10_state.md R53). -/
def inputLevel (m : Mfp) : TimerAB → Bool
  | .a => m.tai
  | .b => m.tbi

/-- The MFP with that level replaced. -/
def putInputLevel (m : Mfp) (t : TimerAB) (v : Bool) : Mfp :=
  match t with
  | .a => { m with tai := v }
  | .b => { m with tbi := v }

/-- The AER bit that selects the active edge: 4 for timer A, 3 for timer B (43_mfp.md R335). -/
def inputEdgeBit : TimerAB → Nat
  | .a => 4
  | .b => 3

/-- `timer_input(T, v)` (43_mfp.md R335). -/
def timerInput (s : State) (t : TimerAB) (v : Bool) : State :=
  let id := timerOfAB t
  let s1 := s.withMfp (putInputLevel s.mfp t v)
  if inputLevel s.mfp t ≠ v ∧ v = s.mfp.aer.getLsbD (inputEdgeBit t) ∧ timerClass (s.timer id).ctrl = .event then
    let c := (s.timer id).cnt - 1
    if c = 0 then
      let s2 := mfpEvent s1 (timerSource id)
      setTimer s2 id { s2.timer id with cnt := (s2.timer id).data }
    else setTimer s1 id { s1.timer id with cnt := c }
  else s1

/-! ### Register rules -/

/-- GPIP, write (R280): no edge is made. -/
def writeGpip (s : State) (v : Byte) : State := s.withMfp { s.mfp with gpipOut := v }

/-- AER, write (R281): no edge is made. -/
def writeAer (s : State) (v : Byte) : State := s.withMfp { s.mfp with aer := v }

/-- DDR, write (R282): no edge is made. -/
def writeDdr (s : State) (v : Byte) : State := s.withMfp { s.mfp with ddr := v }

/-- IER replaced; a source just disabled loses its pending bit (R283, R314). -/
def putIer (s : State) (v : Word) : State := s.withMfp { s.mfp with ier := v, ipr := s.mfp.ipr &&& v }

/-- IERA, write (R283). -/
def writeIera (s : State) (v : Byte) : State := putIer s (putHalfA s.mfp.ier v)

/-- IERB, write (R283). -/
def writeIerb (s : State) (v : Byte) : State := putIer s (putHalfB s.mfp.ier v)

/-- IPRA, write (R284, R316): bits can be cleared, not set. -/
def writeIpra (s : State) (v : Byte) : State :=
  s.withMfp { s.mfp with ipr := putHalfA s.mfp.ipr (hiByte s.mfp.ipr &&& v) }

/-- IPRB, write (R284, R316). -/
def writeIprb (s : State) (v : Byte) : State :=
  s.withMfp { s.mfp with ipr := putHalfB s.mfp.ipr (loByte s.mfp.ipr &&& v) }

/-- ISRA, write (R285, R317): half B of the mask is all ones. -/
def writeIsra (s : State) (v : Byte) : State := endService s (mkWord v 0xFF)

/-- ISRB, write (R285, R317). -/
def writeIsrb (s : State) (v : Byte) : State := endService s (mkWord 0xFF v)

/-- IMRA, write (R286). -/
def writeImra (s : State) (v : Byte) : State := s.withMfp { s.mfp with imr := putHalfA s.mfp.imr v }

/-- IMRB, write (R286). -/
def writeImrb (s : State) (v : Byte) : State := s.withMfp { s.mfp with imr := putHalfB s.mfp.imr v }

/-- VR, write (R287, R319): bits 2:0 are not held; with S = 0 the in-service bits are cleared. -/
def writeVr (s : State) (v : Byte) : State :=
  s.withMfp { s.mfp with vr := v &&& 0xF8, isr := if v.getLsbD 3 then s.mfp.isr else 0 }

/-- TACR, write (R288): bits 7:4 are ignored. -/
def writeTacr (s : State) (v : Byte) : State := setMode s .a (v.extractLsb' 0 4)

/-- TBCR, write (R288). -/
def writeTbcr (s : State) (v : Byte) : State := setMode s .b (v.extractLsb' 0 4)

/-- TCDCR, write (R289): timer C, then timer D. -/
def writeTcdcr (s : State) (v : Byte) : State :=
  setMode (setMode s .c ((v.extractLsb' 4 3).setWidth 4)) .d ((v.extractLsb' 0 3).setWidth 4)

/-- TCDCR as it is read: `0 ++ CMODE ++ 0 ++ DMODE` (R289). -/
def readTcdcr (m : Mfp) : Byte :=
  (0 : BitVec 1) ++ m.tc.ctrl.extractLsb' 0 3 ++ (0 : BitVec 1) ++ m.td.ctrl.extractLsb' 0 3

/-- TADR to TDDR, write (R290): the reload value, and the counter of a stopped timer. -/
def writeTimerData (s : State) (id : TimerId) (v : Byte) : State :=
  if timerClass (s.timer id).ctrl = .stopped then setTimer s id { s.timer id with data := v, cnt := v }
  else setTimer s id { s.timer id with data := v }

/-! ### Meanings -/

/-- IACK l (43_mfp.md R340). -/
def execIack (l : BitVec 3) (s : State) : Host.Outcome State Fault Refusal :=
  .next <| whenCpu s fun s =>
    if l = s.cfg.mfpIpl then
      match greatestEligible s.cfg s.mfp with
      | some src => takeInterrupt s src
      | none => takeSpurious s l
    else turnAway s .wrongLevel

/-- GPIO i, v (43_mfp.md R306): refused on the lines driven from inside the block. -/
def execGpio (i : BitVec 3) (v : Bool) (s : State) : Host.Outcome State Fault Refusal :=
  .next <| whenEnvironment s fun s =>
    if i = s.cfg.blitGpio ∨ i = s.cfg.dmaGpio then turnAway s .drivenInside else setGpioBit s i v

/-- INT s (43_mfp.md R309). -/
def execInt (src : BitVec 4) (s : State) : Host.Outcome State Fault Refusal :=
  .next <| whenEnvironment s fun s =>
    if src = 12 ∨ src = 11 ∨ src = 10 ∨ src = 9 then mfpEvent s src else turnAway s .notInternalLine

/-- TAI v (43_mfp.md R336). -/
def execTai (v : Bool) (s : State) : Host.Outcome State Fault Refusal :=
  .next <| whenEnvironment s fun s => timerInput s .a v

/-- SET_GPIO_BIT i, v (43_mfp.md R305), the narrow call of the blitter and the DMA engine. -/
def execSetGpioBit (i : BitVec 3) (v : Bool) (s : State) : Host.Outcome State Fault Refusal :=
  .next (setGpioBit s i v)

end Sys2Proof.Machine
end

