-- ==== Sys2Proof/Machine/Video.lean ====
section
/-! DEFINITION. The video timing engine and the sound sample FIFO (45_video.md): the callbacks R434 to R439
and R456, the register rules R443 to R449, R457, R458, and PUSH_SAMPLE R454. -/

namespace Sys2Proof.Machine

/-! ### Video -/

/-- The bounds latched from a timing record for a line (45_video.md R432, R439). -/
def boundsOf (v : VideoTiming) (line : Nat) : Bounds :=
  ⟨v.lineLen, v.winStart, v.winEnd, v.hbStart, decide (v.picFirst ≤ line) && decide (line ≤ v.picLast)⟩

/-- `latch_and_arm(m, t)` (R439). -/
def latchAndArm (s : State) (m : VideoMode) (t : Nat) : State :=
  let b := boundsOf (videoTiming s.cfg m) s.vid.line
  let s1 := s.withVid { s.vid with bounds := b }
  let s2 := schedule s1 .vidLine (some (t + b.lineLen))
  let s3 := if b.pic then
      schedule (schedule s2 .vidDeOn (some (t + b.winStart))) .vidDeOff (some (t + b.winEnd))
    else s2
  schedule s3 .vidHb (some (t + b.hbStart))

/-- Callback of VID_LINE (R434). -/
def vidLine (s : State) (t : Nat) : State :=
  let m := videoMode s.vid
  let line := if (videoTiming s.cfg m).lines ≤ s.vid.line + 1 then 0 else s.vid.line + 1
  latchAndArm (s.withVid { s.vid with line := line, lineStart := t }) m t

/-- Callback of VID_DE_ON (R435). -/
def vidDeOn (s : State) : State := timerInput (s.withVid { s.vid with de := true }) .b true

/-- Callback of VID_DE_OFF (R436). -/
def vidDeOff (s : State) : State := timerInput (s.withVid { s.vid with de := false }) .b false

/-- `push_sample(w)` (R454): a word for a full FIFO is dropped. -/
def pushSample (s : State) (w : Word) : State :=
  if s.snd.fifo.length = 4 then s else s.withSnd { s.snd with fifo := s.snd.fifo ++ [w] }

/-- The loop of R437, with the number of pulls still possible: the FIFO holds 4 words. -/
def fillFifo : Nat → State → State
  | 0, s => s
  | n + 1, s =>
    if s.snd.fifo.length < 4 then
      let (w, s1) := drawSample s
      fillFifo n (pushSample s1 w)
    else s

/-- Callback of VID_HB (R437). -/
def vidHb (s : State) : State := if s.snd.en then fillFifo 4 s else s

/-- Callback of SND_DRAIN (R456). -/
def sndDrain (s : State) (t : Nat) : State :=
  let s1 := match s.snd.fifo with
    | w :: rest => s.withSnd { s.snd with fifo := rest, last := w }
    | [] => s
  schedule (emitSample s1 s1.snd.last) .sndDrain (some (t + samplePeriod s1.cfg s1.snd.rate))

/-- PALETTE[n], write (R444). -/
def writePalette (s : State) (n : BitVec 4) (v : Word) : State :=
  let w := v &&& s.cfg.palMask
  emitVideo (s.withVid { s.vid with palette := tablePut s.vid.palette n w })
    (.paletteChange s.vid.line (linePos s) n w)

/-- SHIFT_MODE, write (R446). -/
def writeShiftMode (s : State) (v : Byte) : State :=
  let r : BitVec 2 := v.extractLsb' 0 2
  emitVideo (s.withVid { s.vid with shiftMode := r }) (.modeChange s.vid.line (linePos s) r)

/-- HSCROLL, write (R448). -/
def writeHscroll (s : State) (v : Byte) : State :=
  let h : BitVec 4 := v.extractLsb' 0 4
  emitVideo (s.withVid { s.vid with hscroll := h }) (.scrollChange s.vid.line (linePos s) h)

/-- SYNC, write (R449). -/
def writeSync (s : State) (v : Byte) : State := s.withVid { s.vid with sync := v.extractLsb' 0 2 }

/-! ### Sound -/

/-- SND_CTRL, write (R457). -/
def writeSndCtrl (s : State) (v : Byte) : State :=
  let en := v.getLsbD 0
  let s1 := s.withSnd { s.snd with en := en }
  if s.snd.en = false ∧ en = true then
    schedule s1 .sndDrain (some (s.sched.now + samplePeriod s.cfg s.snd.rate))
  else if s.snd.en = true ∧ en = false then schedule s1 .sndDrain none
  else s1

/-- SND_MODE, write (R458): the pending due time is not moved. -/
def writeSndMode (s : State) (v : Byte) : State := s.withSnd { s.snd with rate := v.extractLsb' 0 2 }

/-! ### Meanings -/

/-- PUSH_SAMPLE w (45_video.md R454). -/
def execPushSample (w : Word) (s : State) : Host.Outcome State Fault Refusal := .next (pushSample s w)

end Sys2Proof.Machine
end

