-- ==== Sys2Proof/Machine/RegFile.lean ====
section
/-! DEFINITION. The register map (30_encoding.md R114) and the access to a register bank: which register a
byte offset belongs to, each register's read value and write rule, `RegReadByte` (20_memory.md R88),
`RegWrite` (R89) and the word read of R86. -/

namespace Sys2Proof.Machine

/-- Entry `n` of an array of words at offset `base`: the index and the byte of an offset. -/
def arrayIndex (base o : Nat) : BitVec 4 × Nat := (BitVec.ofNat 4 ((o - base) / 2), (o - base) % 2)

/-- The blitter bank (R114): the register at an offset, and which of its bytes, 0 the most significant. -/
def blitRegAt (o : Nat) : Option (Reg × Nat) :=
  if o < 0x20 then some (.halftone (arrayIndex 0 o).1, (arrayIndex 0 o).2)
  else match o with
  | 0x20 => some (.srcXinc, 0) | 0x21 => some (.srcXinc, 1)
  | 0x22 => some (.srcYinc, 0) | 0x23 => some (.srcYinc, 1)
  | 0x24 => some (.srcAddr, 0) | 0x25 => some (.srcAddr, 1)
  | 0x26 => some (.srcAddr, 2) | 0x27 => some (.srcAddr, 3)
  | 0x28 => some (.endmask1, 0) | 0x29 => some (.endmask1, 1)
  | 0x2A => some (.endmask2, 0) | 0x2B => some (.endmask2, 1)
  | 0x2C => some (.endmask3, 0) | 0x2D => some (.endmask3, 1)
  | 0x2E => some (.dstXinc, 0) | 0x2F => some (.dstXinc, 1)
  | 0x30 => some (.dstYinc, 0) | 0x31 => some (.dstYinc, 1)
  | 0x32 => some (.dstAddr, 0) | 0x33 => some (.dstAddr, 1)
  | 0x34 => some (.dstAddr, 2) | 0x35 => some (.dstAddr, 3)
  | 0x36 => some (.xCount, 0) | 0x37 => some (.xCount, 1)
  | 0x38 => some (.yCount, 0) | 0x39 => some (.yCount, 1)
  | 0x3A => some (.hop, 0) | 0x3B => some (.op, 0)
  | 0x3C => some (.ctrl, 0) | 0x3D => some (.skew, 0)
  | _ => none

/-- The MFP bank (R114). -/
def mfpRegAt (o : Nat) : Option (Reg × Nat) :=
  match o with
  | 0x01 => some (.gpip, 0) | 0x03 => some (.aer, 0) | 0x05 => some (.ddr, 0)
  | 0x07 => some (.iera, 0) | 0x09 => some (.ierb, 0)
  | 0x0B => some (.ipra, 0) | 0x0D => some (.iprb, 0)
  | 0x0F => some (.isra, 0) | 0x11 => some (.isrb, 0)
  | 0x13 => some (.imra, 0) | 0x15 => some (.imrb, 0)
  | 0x17 => some (.vr, 0)
  | 0x19 => some (.tacr, 0) | 0x1B => some (.tbcr, 0) | 0x1D => some (.tcdcr, 0)
  | 0x1F => some (.tadr, 0) | 0x21 => some (.tbdr, 0)
  | 0x23 => some (.tcdr, 0) | 0x25 => some (.tddr, 0)
  | _ => none

/-- The DMA bank (R114). -/
def dmaRegAt (o : Nat) : Option (Reg × Nat) :=
  match o with
  | 0x04 => some (.data, 0) | 0x05 => some (.data, 1)
  | 0x06 => some (.mode, 0) | 0x07 => some (.mode, 1)
  | 0x09 => some (.addrHi, 0) | 0x0B => some (.addrMid, 0) | 0x0D => some (.addrLo, 0)
  | _ => none

/-- The video bank (R114). -/
def vidRegAt (o : Nat) : Option (Reg × Nat) :=
  if 0x40 ≤ o ∧ o < 0x60 then some (.palette (arrayIndex 0x40 o).1, (arrayIndex 0x40 o).2)
  else match o with
  | 0x0A => some (.sync, 0)
  | 0x60 => some (.shiftMode, 0)
  | 0x65 => some (.hscroll, 0)
  | _ => none

/-- The sound bank (R114). -/
def sndRegAt (o : Nat) : Option (Reg × Nat) :=
  match o with
  | 0x01 => some (.sndCtrl, 0)
  | 0x21 => some (.sndMode, 0)
  | _ => none

/-- The register an offset of a bank belongs to, if any (R114). -/
def regAt : Bank → Nat → Option (Reg × Nat)
  | .blit, o => blitRegAt o
  | .mfp, o => mfpRegAt o
  | .dma, o => dmaRegAt o
  | .vid, o => vidRegAt o
  | .snd, o => sndRegAt o

/-- The bytes a register has (R114). -/
def regSize : Reg → Nat
  | .srcAddr | .dstAddr => 4
  | .halftone _ | .srcXinc | .srcYinc | .endmask1 | .endmask2 | .endmask3 | .dstXinc | .dstYinc
  | .xCount | .yCount | .data | .mode | .palette _ => 2
  | _ => 1

/-- A word register's value in the 32 bits a register value is carried in. -/
def wide (w : Word) : BitVec 32 := w.setWidth 32
/-- A byte register's value in the 32 bits a register value is carried in. -/
def wideByte (b : Byte) : BitVec 32 := b.setWidth 32

/-- The value a register reads, in the low bits (42_blitter.md to 45_video.md, section 1 and 3). Only the
forwarded DATA read touches the state, and only the environment's part of it (20_memory.md R90). At the
offset of MODE the read value is STATUS (R114). -/
def regRead (s : State) (r : Reg) : BitVec 32 × State :=
  match r with
  | .halftone n => (wide (tableGet s.blit.halftone n), s)
  | .srcXinc => (wide s.blit.srcXinc, s)
  | .srcYinc => (wide s.blit.srcYinc, s)
  | .srcAddr => (addrReg s.cfg s.blit.srcAddr, s)
  | .endmask1 => (wide s.blit.endmask1, s)
  | .endmask2 => (wide s.blit.endmask2, s)
  | .endmask3 => (wide s.blit.endmask3, s)
  | .dstXinc => (wide s.blit.dstXinc, s)
  | .dstYinc => (wide s.blit.dstYinc, s)
  | .dstAddr => (addrReg s.cfg s.blit.dstAddr, s)
  | .xCount => (wide s.blit.xCount, s)
  | .yCount => (wide s.blit.yCount, s)
  | .hop => (wideByte (s.blit.hop.setWidth 8), s)
  | .op => (wideByte (s.blit.op.setWidth 8), s)
  | .ctrl => (wideByte (blitCtrl s.blit), s)
  | .skew => (wideByte (blitSkewReg s.blit), s)
  | .gpip => (wideByte (gpipValue s.mfp), s)
  | .aer => (wideByte s.mfp.aer, s)
  | .ddr => (wideByte s.mfp.ddr, s)
  | .iera => (wideByte (hiByte s.mfp.ier), s)
  | .ierb => (wideByte (loByte s.mfp.ier), s)
  | .ipra => (wideByte (hiByte s.mfp.ipr), s)
  | .iprb => (wideByte (loByte s.mfp.ipr), s)
  | .isra => (wideByte (hiByte s.mfp.isr), s)
  | .isrb => (wideByte (loByte s.mfp.isr), s)
  | .imra => (wideByte (hiByte s.mfp.imr), s)
  | .imrb => (wideByte (loByte s.mfp.imr), s)
  | .vr => (wideByte s.mfp.vr, s)
  | .tacr => (wideByte (s.mfp.ta.ctrl.setWidth 8), s)
  | .tbcr => (wideByte (s.mfp.tb.ctrl.setWidth 8), s)
  | .tcdcr => (wideByte (readTcdcr s.mfp), s)
  | .tadr => (wideByte (liveCounter s .a).1, s)
  | .tbdr => (wideByte (liveCounter s .b).1, s)
  | .tcdr => (wideByte (liveCounter s .c).1, s)
  | .tddr => (wideByte (liveCounter s .d).1, s)
  | .data => let (w, s1) := readDmaData s; (wide w, s1)
  | .mode => (wide (dmaStatus s.dma), s)
  | .addrHi => (wideByte (addrHi (addrReg s.cfg s.dma.addr)), s)
  | .addrMid => (wideByte (addrMid (addrReg s.cfg s.dma.addr)), s)
  | .addrLo => (wideByte (addrLo (addrReg s.cfg s.dma.addr)), s)
  | .sync => (wideByte (s.vid.sync.setWidth 8), s)
  | .palette n => (wide (tableGet s.vid.palette n), s)
  | .shiftMode => (wideByte (s.vid.shiftMode.setWidth 8), s)
  | .hscroll => (wideByte (s.vid.hscroll.setWidth 8), s)
  | .sndCtrl => (wideByte ((bit1 s.snd.en).setWidth 8), s)
  | .sndMode => (wideByte (s.snd.rate.setWidth 8), s)

/-- A register's write rule, applied to its full value. -/
def regWrite (s : State) (r : Reg) (v : BitVec 32) : State :=
  let w : Word := v.setWidth 16
  let b : Byte := v.setWidth 8
  match r with
  | .halftone n => writeHalftone s n w
  | .srcXinc => writeSrcXinc s w
  | .srcYinc => writeSrcYinc s w
  | .srcAddr => writeSrcAddr s v
  | .endmask1 => writeEndmask1 s w
  | .endmask2 => writeEndmask2 s w
  | .endmask3 => writeEndmask3 s w
  | .dstXinc => writeDstXinc s w
  | .dstYinc => writeDstYinc s w
  | .dstAddr => writeDstAddr s v
  | .xCount => writeXCount s w
  | .yCount => writeYCount s w
  | .hop => writeHop s b
  | .op => writeOp s b
  | .ctrl => writeBlitCtrl s b
  | .skew => writeSkew s b
  | .gpip => writeGpip s b
  | .aer => writeAer s b
  | .ddr => writeDdr s b
  | .iera => writeIera s b
  | .ierb => writeIerb s b
  | .ipra => writeIpra s b
  | .iprb => writeIprb s b
  | .isra => writeIsra s b
  | .isrb => writeIsrb s b
  | .imra => writeImra s b
  | .imrb => writeImrb s b
  | .vr => writeVr s b
  | .tacr => writeTacr s b
  | .tbcr => writeTbcr s b
  | .tcdcr => writeTcdcr s b
  | .tadr => writeTimerData s .a b
  | .tbdr => writeTimerData s .b b
  | .tcdr => writeTimerData s .c b
  | .tddr => writeTimerData s .d b
  | .data => writeDmaData s w
  | .mode => writeDmaMode s w
  | .addrHi => writeAddrHi s b
  | .addrMid => writeAddrMid s b
  | .addrLo => writeAddrLo s b
  | .sync => writeSync s b
  | .palette n => writePalette s n w
  | .shiftMode => writeShiftMode s b
  | .hscroll => writeHscroll s b
  | .sndCtrl => writeSndCtrl s b
  | .sndMode => writeSndMode s b

/-- `RegReadByte(b, o)` (20_memory.md R88): an offset that holds no register reads 0xFF. -/
def regReadByte (s : State) (b : Bank) (o : Nat) : Byte × State :=
  match regAt b o with
  | none => (0xFF, s)
  | some (r, k) =>
    let (v, s1) := regRead s r
    (regByte v (regSize r) k, s1)

/-- A word read of a bank (R86): "a word read of a 16-bit register reads both halves at one instant". -/
def regReadWord (s : State) (b : Bank) (o : Nat) : Word × State :=
  match regAt b o, regAt b (o + 1) with
  | some (r, k), some (r', k') =>
    if r = r' then
      let (v, s1) := regRead s r
      (mkWord (regByte v (regSize r) k) (regByte v (regSize r) k'), s1)
    else
      let (h, s1) := regReadByte s b o
      let (l, s2) := regReadByte s1 b (o + 1)
      (mkWord h l, s2)
  | _, _ =>
    let (h, s1) := regReadByte s b o
    let (l, s2) := regReadByte s1 b (o + 1)
    (mkWord h l, s2)

/-- `RegWrite(b, o, 1, v)` (R89): a one-byte register takes the byte; of a longer one the write rule is
applied once, to the written byte with the current read value in the other bytes. -/
def regWriteByte (s : State) (b : Bank) (o : Nat) (v : Byte) : State :=
  match regAt b o with
  | none => s
  | some (r, k) =>
    if regSize r = 1 then regWrite s r (wideByte v)
    else
      let (cur, s1) := regRead s r
      regWrite s1 r (putRegByte cur (regSize r) k v)

/-- `RegWrite(b, o, 2, v)` (R89): a register covered whole takes the word; half of a 4-byte register merges;
of two registers the one at the lower offset is written first. -/
def regWriteWord (s : State) (b : Bank) (o : Nat) (v : Word) : State :=
  match regAt b o, regAt b (o + 1) with
  | some (r, k), some (r', k') =>
    if r = r' then
      if regSize r = 2 then regWrite s r (wide v)
      else
        let (cur, s1) := regRead s r
        regWrite s1 r (putRegByte (putRegByte cur (regSize r) k (hiByte v)) (regSize r) k' (loByte v))
    else regWriteByte (regWriteByte s b o (hiByte v)) b (o + 1) (loByte v)
  | _, _ => regWriteByte (regWriteByte s b o (hiByte v)) b (o + 1) (loByte v)

end Sys2Proof.Machine
end

