-- ==== Sys2Proof/Machine/Arbiter.lean ====
section
/-! DEFINITION. The bus arbiter (41_bus_arbiter.md) and everything that moves on the bus: `MemRead` and
`MemWrite` (20_memory.md R86, R87), one transaction `BusRead` and `BusWrite` (R170, R171), the meanings of
RD.B, RD.W, WR.B, WR.W, REQUEST_BUS, IDLE, GRANT_DMA, GRANT_BLIT, and the two steps under a held bus,
BLIT_PHASE (42_blitter.md R222 to R229) and DMA_WORD (44_dma.md R404). -/

namespace Sys2Proof.Machine

/-! ### Memory and transactions -/

/-- `MemRead` in a region (R86); `none` is a bus error. A byte is `zext_16` of what was read. -/
def readRegion (s : State) (p : Addr) (r : Region) (w : Width) : Option Word × State :=
  match r with
  | .ram =>
    match w with
    | .byte => (some (byteToWord (ramByte s p.toNat)), s)
    | .word => (some (ramWord s p.toNat), s)
  | .bank b o =>
    match w with
    | .byte => let (v, s1) := regReadByte s b o; (some (byteToWord v), s1)
    | .word => let (v, s1) := regReadWord s b o; (some v, s1)
  | .ext => let (v, s1) := drawExt s p w; (some v, s1)
  | .none => (none, s)

/-- `MemWrite` in a region (R87); `none` is a bus error, with nothing written. -/
def writeRegion (s : State) (p : Addr) (r : Region) (w : Width) (v : Word) : Option State :=
  match r with
  | .ram =>
    match w with
    | .byte => some (ramPut s p.toNat (loByte v))
    | .word => some (ramPutWord s p.toNat v)
  | .bank b o =>
    match w with
    | .byte => some (regWriteByte s b o (loByte v))
    | .word => some (regWriteWord s b o v)
  | .ext => some (emitDevice s (.extWrite p w v))
  | .none => none

/-- The ticks of a transaction without bus error (R169, R174). -/
def txCost (c : Config) (u : Master) (r : Region) : Nat :=
  match u, r with
  | .cpu, .bank b _ => c.tBus + bankJam c b
  | _, _ => c.tBus

/-- `BusRead` (R170) at the bus address `a` whose remapped address `p` lies in region `r`: the value, `none`
on a bus error, and the state. -/
def txRead (s : State) (u : Master) (a p : Addr) (r : Region) (w : Width) : Option Word × State :=
  let s0 := s.withBus { s.bus with addrLatch := a }
  match readRegion s0 p r w with
  | (some v, s1) =>
    let s2 := s1.withBus { s1.bus with dataLatch := onLatch s1.cfg v, lastTx := ⟨a, onLatch s1.cfg v, w, .read, u⟩ }
    (some v, charge s2 u (txCost s2.cfg u r))
  | (none, s1) =>
    let s2 := s1.withBus { s1.bus with lastTx := ⟨a, s1.bus.dataLatch, w, .read, u⟩ }
    (none, takeBusError s2 u a .read)

/-- `BusWrite` (R171) at the bus address `a` whose remapped address `p` lies in region `r`. -/
def txWrite (s : State) (u : Master) (a p : Addr) (r : Region) (w : Width) (v : Word) : State :=
  let l := onLatch s.cfg v
  let s0 := s.withBus { s.bus with addrLatch := a, dataLatch := l, lastTx := ⟨a, l, w, .write, u⟩ }
  match writeRegion s0 p r w v with
  | some s1 => charge s1 u (txCost s1.cfg u r)
  | none => takeBusError s0 u a .write

/-- `BusRead(unit, a, n)` (R170): the `ADDR_BITS` bits of the address go on the bus; remap, decode,
transaction. -/
def busRead (s : State) (u : Master) (a : Addr) (w : Width) : Option Word × State :=
  let b := onBus s.cfg a
  txRead s u b (remapAddr s.cfg b) (regionOf s.cfg (remapAddr s.cfg b)) w

/-- `BusWrite(unit, a, n, v)` (R171). -/
def busWrite (s : State) (u : Master) (a : Addr) (w : Width) (v : Word) : State :=
  let b := onBus s.cfg a
  txWrite s u b (remapAddr s.cfg b) (regionOf s.cfg (remapAddr s.cfg b)) w v

/-- The result of a CPU read is given to the CPU core; a bus error has been reported already (R170). -/
def reportRead (w : Width) : Option Word × State → State
  | (some v, s) => emitReport s (.data w v)
  | (none, s) => s

/-- A read of a bank by the CPU, at the bank's own address (30_encoding.md R113; entry 20). -/
def bankRead (s : State) (b : Bank) (o : Nat) (w : Width) : State :=
  whenCpu s fun s =>
    let a := bankAddr s.cfg b o
    reportRead w (txRead s .cpu a a (.bank b o) w)

/-- A write of a bank by the CPU, at the bank's own address (30_encoding.md R113; entry 20). -/
def bankWrite (s : State) (b : Bank) (o : Nat) (w : Width) (v : Word) : State :=
  whenCpu s fun s =>
    let a := bankAddr s.cfg b o
    txWrite s .cpu a a (.bank b o) w v

/-! ### Meanings of the CPU's accesses -/

/-- An odd address, which a word transaction cannot have (20_memory.md R85). -/
def isOdd (a : Addr) : Bool := a.getLsbD 0

/-- RD.B a (41_bus_arbiter.md R172). -/
def execRdB (a : Addr) (s : State) : Host.Outcome State Fault Refusal :=
  .next <| whenCpu s fun s => reportRead .byte (busRead s .cpu a .byte)

/-- RD.W a (R172): an odd address is refused. -/
def execRdW (a : Addr) (s : State) : Host.Outcome State Fault Refusal :=
  .next <| whenCpu s fun s =>
    if isOdd a then turnAway s .oddAddress else reportRead .word (busRead s .cpu a .word)

/-- WR.B a, v (R173). -/
def execWrB (a : Addr) (v : Byte) (s : State) : Host.Outcome State Fault Refusal :=
  .next <| whenCpu s fun s => busWrite s .cpu a .byte (byteToWord v)

/-- WR.W a, v (R173): an odd address is refused. -/
def execWrW (a : Addr) (v : Word) (s : State) : Host.Outcome State Fault Refusal :=
  .next <| whenCpu s fun s =>
    if isOdd a then turnAway s .oddAddress else busWrite s .cpu a .word v

/-! ### Meanings of the arbiter's calls and grants -/

/-- REQUEST_BUS unit, cycles_needed (R166): the ticks are not stored, and the DMA engine's request is the
predicate `dma_wants_bus`. -/
def execRequestBus (u : Requester) (_c : Nat) (s : State) : Host.Outcome State Fault Refusal :=
  match u with
  | .blit => .next (requestBlit s)
  | .dma => .next s

/-- IDLE cycles (R169). -/
def execIdle (c : Nat) (s : State) : Host.Outcome State Fault Refusal := .next (chargeIdle s c)

/-- GRANT_DMA (R163). -/
def execGrantDma (s : State) : Host.Outcome State Fault Refusal :=
  .next <| whenStep s .grantDma fun s => (s.withOwner .dma).withBus { s.bus with burstLeft := 8 }

/-- GRANT_BLIT (R164). -/
def execGrantBlit (s : State) : Host.Outcome State Fault Refusal :=
  .next <| whenStep s .grantBlit fun s =>
    let p := if doPrime s.blit then phasePrime else phaseReadSource
    let s1 := (s.withOwner .blit).withBlit { s.blit with request := false, windows := s.blit.windows + 1, phase := p }
    emitTrace s1 (.blitPhase phaseIdle p)

/-! ### BLIT_PHASE -/

/-- "Each transaction does timeout <- max(0, timeout - 1)" (42_blitter.md R222). -/
def countTransaction (s : State) : State := s.withBlit { s.blit with timeout := s.blit.timeout - 1 }

/-- A word read by the blitter: on a bus error the old `data_latch` (41_bus_arbiter.md R170, R175). -/
def blitRead (s : State) (a : Addr) : Word × State :=
  let (v, s1) := busRead s .blit a .word
  (v.getD s.bus.dataLatch, countTransaction s1)

/-- Phase PRIME (42_blitter.md R223). -/
def blitPrime (s : State) : State :=
  let (w, s1) := blitRead s s.blit.srcAddr
  let b := shiftIn s1.blit w
  toPhase (s1.withBlit { b with srcAddr := stepAddr s.cfg b.srcAddr (sextAddr b.srcXinc) }) phaseReadSource

/-- Phase READ_SOURCE (R224). -/
def blitReadSource (s : State) : State :=
  let last := blitLast s.blit
  let next := if doRdest s.blit then phaseReadDest else phaseWriteDest
  let (w, s1) := blitRead s s.blit.srcAddr
  let b := shiftIn s1.blit w
  let inc := if last then b.srcYinc else b.srcXinc
  toPhase (s1.withBlit { b with srcAddr := stepAddr s.cfg b.srcAddr (sextAddr inc) }) next

/-- Phase READ_DEST (R227). -/
def blitReadDest (s : State) : State :=
  let (w, s1) := blitRead s s.blit.dstAddr
  toPhase (s1.withBlit { s1.blit with dlatch := w }) phaseWriteDest

/-- Phase WRITE_DEST (R229), with the word and the position of R220, R228 taken before the write. -/
def blitWriteDest (s : State) : State :=
  let last := blitLast s.blit
  let s1 := countTransaction (busWrite s .blit s.blit.dstAddr .word (blitOut s.blit))
  let s2 := s1.withBlit { s1.blit with
    dstAddr := stepAddr s.cfg s1.blit.dstAddr (sextAddr (if last then s1.blit.dstYinc else s1.blit.dstXinc))
    xCount := s1.blit.xCount - 1 }
  let s3 := (toPhase s2 phaseIdle).withOwner .cpu
  if last then lineEnd s3 else nextWindow s3

/-- The transaction of the current phase (R222). A phase that is none of the four while the blitter holds the
bus is a corrupted one and fails safe (R236; entry 23). -/
def blitPhaseStep (s : State) : State :=
  if s.blit.phase = phasePrime then blitPrime s
  else if s.blit.phase = phaseReadSource then blitReadSource s
  else if s.blit.phase = phaseReadDest then blitReadDest s
  else if s.blit.phase = phaseWriteDest then blitWriteDest s
  else blitToIdle s

/-- BLIT_PHASE (42_blitter.md R222). -/
def execBlitPhase (s : State) : Host.Outcome State Fault Refusal :=
  .next <| whenStep s .blitPhase blitPhaseStep

/-! ### DMA_WORD -/

/-- One word of a burst (44_dma.md R404, R405). -/
def dmaWordStep (s : State) : State :=
  let j := burstWord s
  if dmaDir s.dma then
    let (v, s1) := busRead s .dma s.dma.addr .word
    afterWord (s1.withDma (placeWord s1.dma j (v.getD s.bus.dataLatch)))
  else afterWord (busWrite s .dma s.dma.addr .word (burstData s.dma j))

/-- DMA_WORD (44_dma.md R404). -/
def execDmaWord (s : State) : Host.Outcome State Fault Refusal :=
  .next <| whenStep s .dmaWord dmaWordStep

end Sys2Proof.Machine
end

