-- ==== Sys2Proof/Machine/FieldCodes.lean ====
section
/-! DEFINITION. The field codes: the rows of the formats BLIT_OP, BLIT_HOP, TMODE_AB, TMODE_CD, DMA_MODE,
SHIFT_MODE, SYNC, SND_RATE and SND_CTRL of spec/opcode_table.json (30_encoding.md R110 kind c: "a value
written into a register field selects one of several behaviours"). The meaning of a row is that its code is
written into its field, by the write rule of the field's register, the register's other bits staying; what
the code then selects is in the operation that reads the field: `logicOp`, `hopValue`, `timerClass`,
`dmaDir`, `videoMode`, `samplePeriod`. It is the write itself, without the bus transaction that carries it
(entry 19). -/

namespace Sys2Proof.Machine

/-- DIR, bit 8 of MODE, written with MODE's other bits kept (44_dma.md R381). -/
def selectDir (s : State) (dir : Bool) : State := writeDmaMode s (putBit s.dma.mode 8 dir)

/-- FREQ, bit 1 of SYNC, written with bit 0 kept (45_video.md R449). -/
def selectFreq (s : State) (f : Bool) : State := writeSync s ((putBit s.vid.sync 1 f).setWidth 8)

/-- OP_ZERO: code 0 (42_blitter.md R244). -/
def execOpZero (s : State) : Host.Outcome State Fault Refusal := .next (writeOp s 0)

/-- OP_AND: code 1 (42_blitter.md R245). -/
def execOpAnd (s : State) : Host.Outcome State Fault Refusal := .next (writeOp s 1)

/-- OP_AND_NOTD: code 2 (42_blitter.md R246). -/
def execOpAndNotd (s : State) : Host.Outcome State Fault Refusal := .next (writeOp s 2)

/-- OP_SRC: code 3 (42_blitter.md R247). -/
def execOpSrc (s : State) : Host.Outcome State Fault Refusal := .next (writeOp s 3)

/-- OP_NOTS_AND: code 4 (42_blitter.md R248). -/
def execOpNotsAnd (s : State) : Host.Outcome State Fault Refusal := .next (writeOp s 4)

/-- OP_DST: code 5 (42_blitter.md R249). -/
def execOpDst (s : State) : Host.Outcome State Fault Refusal := .next (writeOp s 5)

/-- OP_XOR: code 6 (42_blitter.md R250). -/
def execOpXor (s : State) : Host.Outcome State Fault Refusal := .next (writeOp s 6)

/-- OP_OR: code 7 (42_blitter.md R251). -/
def execOpOr (s : State) : Host.Outcome State Fault Refusal := .next (writeOp s 7)

/-- OP_NOR: code 8 (42_blitter.md R252). -/
def execOpNor (s : State) : Host.Outcome State Fault Refusal := .next (writeOp s 8)

/-- OP_XNOR: code 9 (42_blitter.md R253). -/
def execOpXnor (s : State) : Host.Outcome State Fault Refusal := .next (writeOp s 9)

/-- OP_NOTD: code 10 (42_blitter.md R254). -/
def execOpNotd (s : State) : Host.Outcome State Fault Refusal := .next (writeOp s 10)

/-- OP_OR_NOTD: code 11 (42_blitter.md R255). -/
def execOpOrNotd (s : State) : Host.Outcome State Fault Refusal := .next (writeOp s 11)

/-- OP_NOTS: code 12 (42_blitter.md R256). -/
def execOpNots (s : State) : Host.Outcome State Fault Refusal := .next (writeOp s 12)

/-- OP_NOTS_OR: code 13 (42_blitter.md R257). -/
def execOpNotsOr (s : State) : Host.Outcome State Fault Refusal := .next (writeOp s 13)

/-- OP_NAND: code 14 (42_blitter.md R258). -/
def execOpNand (s : State) : Host.Outcome State Fault Refusal := .next (writeOp s 14)

/-- OP_ONE: code 15 (42_blitter.md R259). -/
def execOpOne (s : State) : Host.Outcome State Fault Refusal := .next (writeOp s 15)

/-- HOP_ONES: code 0 (42_blitter.md R240). -/
def execHopOnes (s : State) : Host.Outcome State Fault Refusal := .next (writeHop s 0)

/-- HOP_HALFTONE: code 1 (42_blitter.md R241). -/
def execHopHalftone (s : State) : Host.Outcome State Fault Refusal := .next (writeHop s 1)

/-- HOP_SOURCE: code 2 (42_blitter.md R242). -/
def execHopSource (s : State) : Host.Outcome State Fault Refusal := .next (writeHop s 2)

/-- HOP_SRC_AND_HT: code 3 (42_blitter.md R243). -/
def execHopSrcAndHt (s : State) : Host.Outcome State Fault Refusal := .next (writeHop s 3)

/-- TM_STOP: code 0 (43_mfp.md R320). -/
def execTmStop (t : TimerAB) (s : State) : Host.Outcome State Fault Refusal := .next (setMode s (timerOfAB t) 0)

/-- TM_DIV4: code 1 (43_mfp.md R321). -/
def execTmDiv4 (t : TimerAB) (s : State) : Host.Outcome State Fault Refusal := .next (setMode s (timerOfAB t) 1)

/-- TM_DIV10: code 2 (43_mfp.md R322). -/
def execTmDiv10 (t : TimerAB) (s : State) : Host.Outcome State Fault Refusal := .next (setMode s (timerOfAB t) 2)

/-- TM_DIV16: code 3 (43_mfp.md R323). -/
def execTmDiv16 (t : TimerAB) (s : State) : Host.Outcome State Fault Refusal := .next (setMode s (timerOfAB t) 3)

/-- TM_DIV50: code 4 (43_mfp.md R324). -/
def execTmDiv50 (t : TimerAB) (s : State) : Host.Outcome State Fault Refusal := .next (setMode s (timerOfAB t) 4)

/-- TM_DIV64: code 5 (43_mfp.md R325). -/
def execTmDiv64 (t : TimerAB) (s : State) : Host.Outcome State Fault Refusal := .next (setMode s (timerOfAB t) 5)

/-- TM_DIV100: code 6 (43_mfp.md R326). -/
def execTmDiv100 (t : TimerAB) (s : State) : Host.Outcome State Fault Refusal := .next (setMode s (timerOfAB t) 6)

/-- TM_DIV200: code 7 (43_mfp.md R327). -/
def execTmDiv200 (t : TimerAB) (s : State) : Host.Outcome State Fault Refusal := .next (setMode s (timerOfAB t) 7)

/-- TM_EVENT: code 8 (43_mfp.md R328). -/
def execTmEvent (t : TimerAB) (s : State) : Host.Outcome State Fault Refusal := .next (setMode s (timerOfAB t) 8)

/-- TM_RSV.9: code 9 (43_mfp.md R329). -/
def execTmRsv9 (t : TimerAB) (s : State) : Host.Outcome State Fault Refusal := .next (setMode s (timerOfAB t) 9)

/-- TM_RSV.10: code 10 (43_mfp.md R329). -/
def execTmRsv10 (t : TimerAB) (s : State) : Host.Outcome State Fault Refusal := .next (setMode s (timerOfAB t) 10)

/-- TM_RSV.11: code 11 (43_mfp.md R329). -/
def execTmRsv11 (t : TimerAB) (s : State) : Host.Outcome State Fault Refusal := .next (setMode s (timerOfAB t) 11)

/-- TM_RSV.12: code 12 (43_mfp.md R329). -/
def execTmRsv12 (t : TimerAB) (s : State) : Host.Outcome State Fault Refusal := .next (setMode s (timerOfAB t) 12)

/-- TM_RSV.13: code 13 (43_mfp.md R329). -/
def execTmRsv13 (t : TimerAB) (s : State) : Host.Outcome State Fault Refusal := .next (setMode s (timerOfAB t) 13)

/-- TM_RSV.14: code 14 (43_mfp.md R329). -/
def execTmRsv14 (t : TimerAB) (s : State) : Host.Outcome State Fault Refusal := .next (setMode s (timerOfAB t) 14)

/-- TM_RSV.15: code 15 (43_mfp.md R329). -/
def execTmRsv15 (t : TimerAB) (s : State) : Host.Outcome State Fault Refusal := .next (setMode s (timerOfAB t) 15)

/-- TM_STOP.CD: code 0 (43_mfp.md R320). -/
def execTmStopCd (t : TimerCD) (s : State) : Host.Outcome State Fault Refusal := .next (setMode s (timerOfCD t) 0)

/-- TM_DIV4.CD: code 1 (43_mfp.md R321). -/
def execTmDiv4Cd (t : TimerCD) (s : State) : Host.Outcome State Fault Refusal := .next (setMode s (timerOfCD t) 1)

/-- TM_DIV10.CD: code 2 (43_mfp.md R322). -/
def execTmDiv10Cd (t : TimerCD) (s : State) : Host.Outcome State Fault Refusal := .next (setMode s (timerOfCD t) 2)

/-- TM_DIV16.CD: code 3 (43_mfp.md R323). -/
def execTmDiv16Cd (t : TimerCD) (s : State) : Host.Outcome State Fault Refusal := .next (setMode s (timerOfCD t) 3)

/-- TM_DIV50.CD: code 4 (43_mfp.md R324). -/
def execTmDiv50Cd (t : TimerCD) (s : State) : Host.Outcome State Fault Refusal := .next (setMode s (timerOfCD t) 4)

/-- TM_DIV64.CD: code 5 (43_mfp.md R325). -/
def execTmDiv64Cd (t : TimerCD) (s : State) : Host.Outcome State Fault Refusal := .next (setMode s (timerOfCD t) 5)

/-- TM_DIV100.CD: code 6 (43_mfp.md R326). -/
def execTmDiv100Cd (t : TimerCD) (s : State) : Host.Outcome State Fault Refusal := .next (setMode s (timerOfCD t) 6)

/-- TM_DIV200.CD: code 7 (43_mfp.md R327). -/
def execTmDiv200Cd (t : TimerCD) (s : State) : Host.Outcome State Fault Refusal := .next (setMode s (timerOfCD t) 7)

/-- DMA_READ: code 0 (44_dma.md R390). -/
def execDmaRead (s : State) : Host.Outcome State Fault Refusal := .next (selectDir s false)

/-- DMA_WRITE: code 1 (44_dma.md R391). -/
def execDmaWrite (s : State) : Host.Outcome State Fault Refusal := .next (selectDir s true)

/-- RES_LOW: code 0 (45_video.md R447). -/
def execResLow (s : State) : Host.Outcome State Fault Refusal := .next (writeShiftMode s 0)

/-- RES_MED: code 1 (45_video.md R447). -/
def execResMed (s : State) : Host.Outcome State Fault Refusal := .next (writeShiftMode s 1)

/-- RES_HIGH: code 2 (45_video.md R447). -/
def execResHigh (s : State) : Host.Outcome State Fault Refusal := .next (writeShiftMode s 2)

/-- RES_RSV3: code 3 (45_video.md R447). -/
def execResRsv3 (s : State) : Host.Outcome State Fault Refusal := .next (writeShiftMode s 3)

/-- FREQ_60: code 0 (45_video.md R449). -/
def execFreq60 (s : State) : Host.Outcome State Fault Refusal := .next (selectFreq s false)

/-- FREQ_50: code 1 (45_video.md R449). -/
def execFreq50 (s : State) : Host.Outcome State Fault Refusal := .next (selectFreq s true)

/-- RATE_0: code 0 (45_video.md R458). -/
def execRate0 (s : State) : Host.Outcome State Fault Refusal := .next (writeSndMode s 0)

/-- RATE_1: code 1 (45_video.md R458). -/
def execRate1 (s : State) : Host.Outcome State Fault Refusal := .next (writeSndMode s 1)

/-- RATE_2: code 2 (45_video.md R458). -/
def execRate2 (s : State) : Host.Outcome State Fault Refusal := .next (writeSndMode s 2)

/-- RATE_3: code 3 (45_video.md R458). -/
def execRate3 (s : State) : Host.Outcome State Fault Refusal := .next (writeSndMode s 3)

/-- SND_OFF: code 0 (45_video.md R457). -/
def execSndOff (s : State) : Host.Outcome State Fault Refusal := .next (writeSndCtrl s 0)

/-- SND_ON: code 1 (45_video.md R457). -/
def execSndOn (s : State) : Host.Outcome State Fault Refusal := .next (writeSndCtrl s 1)

end Sys2Proof.Machine
end

