-- ==== Sys2Proof/Machine/RegRows.lean ====
section
/-! DEFINITION. The register accesses: the rows of format REG of spec/opcode_table.json (30_encoding.md R110
kind b, R113, R114). "A RD or WR command whose address falls in a register bank selects one register": the
meaning of a row is that command of the CPU on that register, with the access its operand gives. It is a
whole bus transaction (41_bus_arbiter.md R170 to R173) that reads the register's read value or applies its
write rule (entry 20). -/

namespace Sys2Proof.Machine

/-- An access to the 16-bit register at offset `o` of a bank. -/
def access16At (s : State) (b : Bank) (o : Nat) (acc : Acc16) : State :=
  match acc with
  | .rd l => bankRead s b (laneAccess o l).1 (laneAccess o l).2
  | .wr (.hi v) => bankWrite s b o .byte (byteToWord v)
  | .wr (.lo v) => bankWrite s b (o + 1) .byte (byteToWord v)
  | .wr (.both v) => bankWrite s b o .word v

/-- An access to the one-byte register at offset `o` of a bank. -/
def access8At (s : State) (b : Bank) (o : Nat) (acc : Acc8) : State :=
  match acc with
  | .rd => bankRead s b o .byte
  | .wr v => bankWrite s b o .byte (byteToWord v)

/-- REG.BLIT.HALFTONE (42_blitter.md R200). -/
def execRegBlitHalftone (n : BitVec 4) (acc : Acc16) (s : State) : Host.Outcome State Fault Refusal :=
  .next (access16At s .blit (2 * n.toNat) acc)

/-- REG.BLIT.SRC_XINC (42_blitter.md R201). -/
def execRegBlitSrcXinc (acc : Acc16) (s : State) : Host.Outcome State Fault Refusal :=
  .next (access16At s .blit 0x20 acc)

/-- REG.BLIT.SRC_YINC (42_blitter.md R201). -/
def execRegBlitSrcYinc (acc : Acc16) (s : State) : Host.Outcome State Fault Refusal :=
  .next (access16At s .blit 0x22 acc)

/-- REG.BLIT.SRC_ADDR.H (42_blitter.md R202). -/
def execRegBlitSrcAddrH (acc : Acc16) (s : State) : Host.Outcome State Fault Refusal :=
  .next (access16At s .blit 0x24 acc)

/-- REG.BLIT.SRC_ADDR.L (42_blitter.md R202). -/
def execRegBlitSrcAddrL (acc : Acc16) (s : State) : Host.Outcome State Fault Refusal :=
  .next (access16At s .blit 0x26 acc)

/-- REG.BLIT.ENDMASK1 (42_blitter.md R203). -/
def execRegBlitEndmask1 (acc : Acc16) (s : State) : Host.Outcome State Fault Refusal :=
  .next (access16At s .blit 0x28 acc)

/-- REG.BLIT.ENDMASK2 (42_blitter.md R203). -/
def execRegBlitEndmask2 (acc : Acc16) (s : State) : Host.Outcome State Fault Refusal :=
  .next (access16At s .blit 0x2A acc)

/-- REG.BLIT.ENDMASK3 (42_blitter.md R203). -/
def execRegBlitEndmask3 (acc : Acc16) (s : State) : Host.Outcome State Fault Refusal :=
  .next (access16At s .blit 0x2C acc)

/-- REG.BLIT.DST_XINC (42_blitter.md R201). -/
def execRegBlitDstXinc (acc : Acc16) (s : State) : Host.Outcome State Fault Refusal :=
  .next (access16At s .blit 0x2E acc)

/-- REG.BLIT.DST_YINC (42_blitter.md R201). -/
def execRegBlitDstYinc (acc : Acc16) (s : State) : Host.Outcome State Fault Refusal :=
  .next (access16At s .blit 0x30 acc)

/-- REG.BLIT.DST_ADDR.H (42_blitter.md R202). -/
def execRegBlitDstAddrH (acc : Acc16) (s : State) : Host.Outcome State Fault Refusal :=
  .next (access16At s .blit 0x32 acc)

/-- REG.BLIT.DST_ADDR.L (42_blitter.md R202). -/
def execRegBlitDstAddrL (acc : Acc16) (s : State) : Host.Outcome State Fault Refusal :=
  .next (access16At s .blit 0x34 acc)

/-- REG.BLIT.X_COUNT (42_blitter.md R204). -/
def execRegBlitXCount (acc : Acc16) (s : State) : Host.Outcome State Fault Refusal :=
  .next (access16At s .blit 0x36 acc)

/-- REG.BLIT.Y_COUNT (42_blitter.md R205). -/
def execRegBlitYCount (acc : Acc16) (s : State) : Host.Outcome State Fault Refusal :=
  .next (access16At s .blit 0x38 acc)

/-- REG.BLIT.HOP (42_blitter.md R206). -/
def execRegBlitHop (acc : Acc8) (s : State) : Host.Outcome State Fault Refusal :=
  .next (access8At s .blit 0x3A acc)

/-- REG.BLIT.OP (42_blitter.md R207). -/
def execRegBlitOp (acc : Acc8) (s : State) : Host.Outcome State Fault Refusal :=
  .next (access8At s .blit 0x3B acc)

/-- REG.BLIT.CTRL.read (42_blitter.md R208). -/
def execRegBlitCtrlRead (s : State) : Host.Outcome State Fault Refusal :=
  .next (access8At s .blit 0x3C .rd)

/-- REG.BLIT.CTRL.write (42_blitter.md R209). -/
def execRegBlitCtrlWrite (v : Byte) (s : State) : Host.Outcome State Fault Refusal :=
  .next (access8At s .blit 0x3C (.wr v))

/-- REG.BLIT.SKEW (42_blitter.md R210). -/
def execRegBlitSkew (acc : Acc8) (s : State) : Host.Outcome State Fault Refusal :=
  .next (access8At s .blit 0x3D acc)

/-- REG.MFP.GPIP (43_mfp.md R280). -/
def execRegMfpGpip (acc : Acc8) (s : State) : Host.Outcome State Fault Refusal :=
  .next (access8At s .mfp 0x01 acc)

/-- REG.MFP.AER (43_mfp.md R281). -/
def execRegMfpAer (acc : Acc8) (s : State) : Host.Outcome State Fault Refusal :=
  .next (access8At s .mfp 0x03 acc)

/-- REG.MFP.DDR (43_mfp.md R282). -/
def execRegMfpDdr (acc : Acc8) (s : State) : Host.Outcome State Fault Refusal :=
  .next (access8At s .mfp 0x05 acc)

/-- REG.MFP.IERA (43_mfp.md R283). -/
def execRegMfpIera (acc : Acc8) (s : State) : Host.Outcome State Fault Refusal :=
  .next (access8At s .mfp 0x07 acc)

/-- REG.MFP.IERB (43_mfp.md R283). -/
def execRegMfpIerb (acc : Acc8) (s : State) : Host.Outcome State Fault Refusal :=
  .next (access8At s .mfp 0x09 acc)

/-- REG.MFP.IPRA (43_mfp.md R284). -/
def execRegMfpIpra (acc : Acc8) (s : State) : Host.Outcome State Fault Refusal :=
  .next (access8At s .mfp 0x0B acc)

/-- REG.MFP.IPRB (43_mfp.md R284). -/
def execRegMfpIprb (acc : Acc8) (s : State) : Host.Outcome State Fault Refusal :=
  .next (access8At s .mfp 0x0D acc)

/-- REG.MFP.ISRA (43_mfp.md R285). -/
def execRegMfpIsra (acc : Acc8) (s : State) : Host.Outcome State Fault Refusal :=
  .next (access8At s .mfp 0x0F acc)

/-- REG.MFP.ISRB (43_mfp.md R285). -/
def execRegMfpIsrb (acc : Acc8) (s : State) : Host.Outcome State Fault Refusal :=
  .next (access8At s .mfp 0x11 acc)

/-- REG.MFP.IMRA (43_mfp.md R286). -/
def execRegMfpImra (acc : Acc8) (s : State) : Host.Outcome State Fault Refusal :=
  .next (access8At s .mfp 0x13 acc)

/-- REG.MFP.IMRB (43_mfp.md R286). -/
def execRegMfpImrb (acc : Acc8) (s : State) : Host.Outcome State Fault Refusal :=
  .next (access8At s .mfp 0x15 acc)

/-- REG.MFP.VR (43_mfp.md R287). -/
def execRegMfpVr (acc : Acc8) (s : State) : Host.Outcome State Fault Refusal :=
  .next (access8At s .mfp 0x17 acc)

/-- REG.MFP.TACR (43_mfp.md R288). -/
def execRegMfpTacr (acc : Acc8) (s : State) : Host.Outcome State Fault Refusal :=
  .next (access8At s .mfp 0x19 acc)

/-- REG.MFP.TBCR (43_mfp.md R288). -/
def execRegMfpTbcr (acc : Acc8) (s : State) : Host.Outcome State Fault Refusal :=
  .next (access8At s .mfp 0x1B acc)

/-- REG.MFP.TCDCR (43_mfp.md R289). -/
def execRegMfpTcdcr (acc : Acc8) (s : State) : Host.Outcome State Fault Refusal :=
  .next (access8At s .mfp 0x1D acc)

/-- REG.MFP.TADR (43_mfp.md R290). -/
def execRegMfpTadr (acc : Acc8) (s : State) : Host.Outcome State Fault Refusal :=
  .next (access8At s .mfp 0x1F acc)

/-- REG.MFP.TBDR (43_mfp.md R290). -/
def execRegMfpTbdr (acc : Acc8) (s : State) : Host.Outcome State Fault Refusal :=
  .next (access8At s .mfp 0x21 acc)

/-- REG.MFP.TCDR (43_mfp.md R290). -/
def execRegMfpTcdr (acc : Acc8) (s : State) : Host.Outcome State Fault Refusal :=
  .next (access8At s .mfp 0x23 acc)

/-- REG.MFP.TDDR (43_mfp.md R290). -/
def execRegMfpTddr (acc : Acc8) (s : State) : Host.Outcome State Fault Refusal :=
  .next (access8At s .mfp 0x25 acc)

/-- REG.DMA.DATA.count (44_dma.md R384): with SC_SEL = 1 the sector counter; with SC_SEL = 0 the access reaches what SC_SEL selects (entry 18). -/
def execRegDmaDataCount (acc : Acc16) (s : State) : Host.Outcome State Fault Refusal :=
  .next (access16At s .dma 0x04 acc)

/-- REG.DMA.DATA.controller (44_dma.md R385): with SC_SEL = 0 the external controller; with SC_SEL = 1 the access reaches what SC_SEL selects (entry 18). -/
def execRegDmaDataController (acc : Acc16) (s : State) : Host.Outcome State Fault Refusal :=
  .next (access16At s .dma 0x04 acc)

/-- REG.DMA.MODE (44_dma.md R381). -/
def execRegDmaMode (w : Wr16) (s : State) : Host.Outcome State Fault Refusal :=
  .next (access16At s .dma 0x06 (.wr w))

/-- REG.DMA.STATUS (44_dma.md R383). -/
def execRegDmaStatus (l : Lane) (s : State) : Host.Outcome State Fault Refusal :=
  .next (access16At s .dma 0x06 (.rd l))

/-- REG.DMA.ADDR_HI (44_dma.md R386). -/
def execRegDmaAddrHi (acc : Acc8) (s : State) : Host.Outcome State Fault Refusal :=
  .next (access8At s .dma 0x09 acc)

/-- REG.DMA.ADDR_MID (44_dma.md R386). -/
def execRegDmaAddrMid (acc : Acc8) (s : State) : Host.Outcome State Fault Refusal :=
  .next (access8At s .dma 0x0B acc)

/-- REG.DMA.ADDR_LO (44_dma.md R386). -/
def execRegDmaAddrLo (acc : Acc8) (s : State) : Host.Outcome State Fault Refusal :=
  .next (access8At s .dma 0x0D acc)

/-- REG.VID.SYNC (45_video.md R449). -/
def execRegVidSync (acc : Acc8) (s : State) : Host.Outcome State Fault Refusal :=
  .next (access8At s .vid 0x0A acc)

/-- REG.VID.PALETTE.read (45_video.md R443). -/
def execRegVidPaletteRead (n : BitVec 4) (l : Lane) (s : State) : Host.Outcome State Fault Refusal :=
  .next (access16At s .vid (0x40 + 2 * n.toNat) (.rd l))

/-- REG.VID.PALETTE.write (45_video.md R444). -/
def execRegVidPaletteWrite (n : BitVec 4) (w : Wr16) (s : State) : Host.Outcome State Fault Refusal :=
  .next (access16At s .vid (0x40 + 2 * n.toNat) (.wr w))

/-- REG.VID.SHIFT_MODE.read (45_video.md R445). -/
def execRegVidShiftModeRead (s : State) : Host.Outcome State Fault Refusal :=
  .next (access8At s .vid 0x60 .rd)

/-- REG.VID.SHIFT_MODE.write (45_video.md R446). -/
def execRegVidShiftModeWrite (v : Byte) (s : State) : Host.Outcome State Fault Refusal :=
  .next (access8At s .vid 0x60 (.wr v))

/-- REG.VID.HSCROLL (45_video.md R448). -/
def execRegVidHscroll (acc : Acc8) (s : State) : Host.Outcome State Fault Refusal :=
  .next (access8At s .vid 0x65 acc)

/-- REG.SND.SND_CTRL (45_video.md R457). -/
def execRegSndSndCtrl (acc : Acc8) (s : State) : Host.Outcome State Fault Refusal :=
  .next (access8At s .snd 0x01 acc)

/-- REG.SND.SND_MODE (45_video.md R458). -/
def execRegSndSndMode (acc : Acc8) (s : State) : Host.Outcome State Fault Refusal :=
  .next (access8At s .snd 0x21 acc)

end Sys2Proof.Machine
end

