-- ==== Sys2Proof/Machine/Scheduler.lean ====
section
/-! DEFINITION. The clock and event scheduler (40_scheduler.md): the callbacks R146, FIRE R145, ADVANCE R144,
and the meanings of RUN, SCHEDULE, ADVANCE and FIRE. -/

namespace Sys2Proof.Machine

/-- `callback[id](t)` (R146). -/
def callback (s : State) (id : SlotId) (t : Nat) : State :=
  match id with
  | .ta => underflow s .a t
  | .tb => underflow s .b t
  | .tc => underflow s .c t
  | .td => underflow s .d t
  | .blitResume => blitResume s
  | .vidLine => vidLine s t
  | .vidDeOn => vidDeOn s
  | .vidDeOff => vidDeOff s
  | .vidHb => vidHb s
  | .sndDrain => sndDrain s t

/-- The event of a slot fires: the slot is cleared, then the callback is told its due time (R145). -/
def fireSlot (s : State) (id : SlotId) : State :=
  match (s.slot id).due with
  | some t => callback (clearSlot s id) id t
  | none => s

/-- FIRE (R145): the due slot with the least `(due, seq)`. -/
def fireOne (s : State) : State :=
  match leastDue s with
  | some id => fireSlot s id
  | none => s

/-- How many firings one ADVANCE may take: each of the ten slots fires at rising due times not after `now`
(R144; entry 25). -/
def advanceBound (s : State) : Nat := 10 * (s.sched.now + 2)

/-- The loop of ADVANCE (R144), with the firings still allowed. -/
def advanceLoop : Nat → State → Option State
  | 0, s => if fireEnabled s then none else some s
  | n + 1, s => if fireEnabled s then advanceLoop n (fireOne s) else some s

/-- RUN n (R142): n = 0 is refused. -/
def execRun (n : Nat) (s : State) : Host.Outcome State Fault Refusal :=
  .next <| whenCpu s fun s => if n = 0 then turnAway s .runZero else advanceNow s n

/-- SCHEDULE slot, t (R143). -/
def execSchedule (id : SlotId) (t : Option Nat) (s : State) : Host.Outcome State Fault Refusal :=
  .next (schedule s id t)

/-- ADVANCE (R144). -/
def execAdvance (s : State) : Host.Outcome State Fault Refusal :=
  match advanceLoop (advanceBound s) s with
  | some s' => .next s'
  | none => .fault .advanceDoesNotEnd

/-- FIRE (R145). -/
def execFire (s : State) : Host.Outcome State Fault Refusal := .next <| whenStep s .fire fireOne

end Sys2Proof.Machine
end

