-- ==== Sys2Proof/Machine/Snapshot.lean ====
section
/-! DEFINITION. Reset (70_reset_and_hazards.md R520 to R523), snapshot and restore (60_exceptions.md R486,
R500, R501, R505), and the meanings of RESET.C, RESET.W, SNAP and RESTORE. -/

namespace Sys2Proof.Machine

/-! ### Reset -/

/-- `video_reset` (R523). -/
def videoReset (s : State) : State :=
  let s1 := s.withVid { s.vid with line := 0, lineStart := s.sched.now, de := false }
  latchAndArm s1 (videoMode s1.vid) s1.sched.now

/-- Steps 1 to 3 of `reset_common` (R522): slots, registers, lines. -/
def resetUnits (s : State) : State :=
  { s with
    sched := { s.sched with slots := Slots.reset }
    bus := Bus.reset
    owner := .cpu
    blit := Blit.reset
    mfp := Mfp.reset s.cfg
    dma := Dma.reset
    vid := Vid.blank
    snd := Snd.reset }

/-- `reset_common` (R522). -/
def resetCommon (s : State) : State := videoReset (resetUnits s)

/-- RESET.C (R520): the counters start anew, and RAM holds new power-on contents (entry 10). -/
def coldReset (s : State) : State :=
  resetCommon { s with
    sched := { s.sched with now := 0, seqNext := 0 }
    mem := []
    env := { s.env with coldResets := s.env.coldResets + 1 } }

/-- RESET.C. -/
def execResetC (s : State) : Host.Outcome State Fault Refusal := .next (coldReset s)

/-- RESET.W (R521). -/
def execResetW (s : State) : Host.Outcome State Fault Refusal := .next (resetCommon s)

/-! ### Snapshot -/

/-- A timer as the dump holds it: `cnt` and `res` at their live values (R505). -/
def liveTimer (s : State) (id : TimerId) : Timer :=
  { s.timer id with cnt := (liveCounter s id).1, res := (liveCounter s id).2 }

/-- The dump of R505. -/
def takeDump (s : State) : Dump where
  cfg := s.cfg
  sched := s.sched
  bus := s.bus
  owner := some s.owner
  blit := s.blit
  mfp := { s.mfp with ta := liveTimer s .a, tb := liveTimer s .b, tc := liveTimer s .c, td := liveTimer s .d }
  dma := s.dma
  vid := s.vid
  ptr := scanPtr s
  snd := s.snd

/-- SNAP (R500). -/
def execSnap (s : State) : Host.Outcome State Fault Refusal := .next (emitReport s (.dump (takeDump s)))

/-! ### Restore -/

/-- A loaded slot: `one_shot` is forced true (93 U2). -/
def loadSlot (x : Slot) : Slot := { x with oneShot := true }

/-- The loaded slots. -/
def loadSlots (t : Slots) : Slots :=
  ⟨loadSlot t.ta, loadSlot t.tb, loadSlot t.tc, loadSlot t.td, loadSlot t.blitResume,
   loadSlot t.vidLine, loadSlot t.vidDeOn, loadSlot t.vidDeOff, loadSlot t.vidHb, loadSlot t.sndDrain⟩

/-- A loaded timer: the counters of a timer that runs in a delay mode are not stored (R51, R52; entry 14). -/
def loadTimer (t : Timer) : Timer :=
  match timerClass t.ctrl with
  | .delay _ => { t with cnt := 0, res := 0 }
  | _ => t

/-- A loaded timer C or D: its control field has 3 bits (R49). -/
def loadTimerCD (t : Timer) : Timer := loadTimer { t with ctrl := t.ctrl &&& 7 }

/-- The loaded arbiter: the latches hold what goes on the bus (R24, R25; entry 37). -/
def loadBus (c : Config) (b : Bus) : Bus :=
  { b with
    addrLatch := onBus c b.addrLatch
    dataLatch := onLatch c b.dataLatch
    lastTx := { b.lastTx with address := onBus c b.lastTx.address, data := onLatch c b.lastTx.data } }

/-- The loaded blitter: hardwired bits stay 0 (R30, R31; entry 37). -/
def loadBlit (c : Config) (b : Blit) : Blit :=
  { b with
    srcXinc := evenWord b.srcXinc
    srcYinc := evenWord b.srcYinc
    dstXinc := evenWord b.dstXinc
    dstYinc := evenWord b.dstYinc
    srcAddr := addrReg c b.srcAddr
    dstAddr := addrReg c b.dstAddr }

/-- The loaded MFP: VR bits 2:0 are not held (R48; entry 37). -/
def loadMfp (m : Mfp) : Mfp :=
  { m with
    vr := m.vr &&& 0xF8
    ta := loadTimer m.ta
    tb := loadTimer m.tb
    tc := loadTimerCD m.tc
    td := loadTimerCD m.td }

/-- The loaded video unit: palette bits outside `PAL_MASK` are not held (R63; entry 37). -/
def loadVid (c : Config) (v : Vid) : Vid :=
  { v with palette := ⟨(v.palette.toList.map (fun w => w &&& c.palMask)).toArray, by simp⟩ }

/-- "every state item listed in rule R505 <- its value in d" (R501). An owner that is none of the three loads
as CPU and is put to idle by the checks. -/
def loadDump (s : State) (d : Dump) : State :=
  { s with
    sched := { d.sched with slots := loadSlots d.sched.slots }
    bus := loadBus s.cfg d.bus
    owner := d.owner.getD .cpu
    blit := loadBlit s.cfg d.blit
    mfp := loadMfp d.mfp
    dma := { d.dma with addr := addrReg s.cfg d.dma.addr }
    vid := loadVid s.cfg d.vid
    snd := d.snd }

/-- First row of R486. -/
def badBlit (s : State) (owner : Option Master) : Bool :=
  decide (4 < s.blit.phase.toNat) || decide (s.cfg.blitSlice < s.blit.timeout) ||
  (owner == some .blit && s.blit.phase == phaseIdle) ||
  (owner != some .blit && s.blit.phase != phaseIdle)

/-- Second row of R486. -/
def badArbiter (s : State) (owner : Option Master) : Bool :=
  owner == none || decide (8 < s.bus.burstLeft) || ((s.owner == .dma) != decide (0 < s.bus.burstLeft))

/-- Third row of R486. -/
def badDma (d : Dma) : Bool :=
  decide (16 < d.idx) || decide (d.byteCnt % 16 ≠ 0) || decide (512 ≤ d.byteCnt) || decide (1 < d.active)

/-- Fourth row of R486. -/
def badSound (x : Snd) : Bool := decide (4 < x.fifo.length)

/-- The constraints of 45_video.md R431 on latched bounds. -/
def boundsOk (b : Bounds) : Bool :=
  decide (b.winStart < b.winEnd) && decide (b.winEnd < b.lineLen) &&
  decide ((b.winEnd - b.winStart) % 4 = 0) &&
  decide (b.winEnd ≤ b.hbStart) && decide (b.hbStart < b.lineLen)

/-- Fifth row of R486. It also holds of a SNAP dump whose frame a write of SYNC or SHIFT_MODE has made shorter than
its line, until the next line starts: the check of R486 is applied to it, and R502's round trip does not hold of
that dump. DESIGN CHOICE between the two rules (entry 39). -/
def badVideo (s : State) : Bool :=
  decide ((videoTiming s.cfg (videoMode s.vid)).lines ≤ s.vid.line) || !boundsOk s.vid.bounds

/-- The arbiter put to idle (R486). -/
def arbiterToIdle (s : State) : State :=
  emitTrace ((s.withOwner .cpu).withBus { s.bus with burstLeft := 0 }) (.invalidState .arbiter)

/-- The DMA engine put to idle (R486): the engine reset, its line cleared without an edge. -/
def dmaToIdle (s : State) : State :=
  let s1 := s.withDma (engineIdle s.dma)
  emitTrace (s1.withMfp { s1.mfp with ext := putBit s1.mfp.ext s1.cfg.dmaGpio.toNat false }) (.invalidState .dma)

/-- The sound put to off (R486). -/
def soundOff (s : State) : State :=
  emitTrace (clearSlot (s.withSnd { s.snd with fifo := [], en := false }) .sndDrain) (.invalidState .sound)

/-- The video unit put to its reset state (R486, R523): its registers take their reset values, its four line slots
are `NEVER`, then `video_reset` arms the first line, "mode from the reset values: NTSC_60" (entry 26). -/
def videoToReset (s : State) : State :=
  let s1 := clearSlot (clearSlot (clearSlot (clearSlot s .vidLine) .vidDeOn) .vidDeOff) .vidHb
  emitTrace (videoReset (s1.withVid Vid.blank)) (.invalidState .video)

/-- A recovery where its check finds the state bad. -/
def recoverIf (bad : Bool) (f : State → State) (s : State) : State := if bad then f s else s

/-- RESTORE of a dump (R501): load, then the checks of R486 in their order. -/
def restoreDump (s : State) (d : Dump) : State :=
  let s0 := loadDump s d
  let s1 := recoverIf (badBlit s0 d.owner) blitToIdle s0
  let s2 := recoverIf (badArbiter s1 d.owner) arbiterToIdle s1
  let s3 := recoverIf (badDma s2.dma) dmaToIdle s2
  let s4 := recoverIf (badSound s3.snd) soundOff s3
  recoverIf (badVideo s4) videoToReset s4

/-- RESTORE d (R501): a dump whose shape does not fit, or of another configuration, is refused (entry 27). -/
def execRestore (d : Option Dump) (s : State) : Host.Outcome State Fault Refusal :=
  match d with
  | some d => if d.cfg = s.cfg then .next (restoreDump s d) else .next (turnAway s .dumpShape)
  | none => .next (turnAway s .dumpShape)

end Sys2Proof.Machine
end

