-- ==== Sys2Proof/Syntax.lean ====
section
/-! DEFINITION. The operations of the block: one constructor per row of spec/opcode_table.json, in its
order. The docstring of a constructor gives the row's mnemonic and the rule of its meaning. The operands are
those of 30_encoding.md R111, R112 and, for a register access (format REG), the access: its direction, the
bytes it covers and the value written. A timer mode code names the timer whose field holds it. -/

namespace Sys2Proof

open Sys2Proof.Machine

/-- The operations of the block (30_encoding.md R110). -/
inductive Instr where
  /-- RUN: R142 -/
  | run (n : Nat)
  /-- RD.B: R172 -/
  | rdB (a : Addr)
  /-- RD.W: R172 -/
  | rdW (a : Addr)
  /-- WR.B: R173 -/
  | wrB (a : Addr) (v : Byte)
  /-- WR.W: R173 -/
  | wrW (a : Addr) (v : Word)
  /-- IACK: R340 -/
  | iack (l : BitVec 3)
  /-- GPIO: R306 -/
  | gpio (i : BitVec 3) (v : Bool)
  /-- INT: R309 -/
  | int (src : BitVec 4)
  /-- TAI: R336 -/
  | tai (v : Bool)
  /-- DBIN: R396 -/
  | dbin (b : Byte)
  /-- DBOUT: R400 -/
  | dbout
  /-- RESET.C: R520 -/
  | resetC
  /-- RESET.W: R521 -/
  | resetW
  /-- SNAP: R500 -/
  | snap
  /-- RESTORE: R501 -/
  | restore (d : Option Dump)
  /-- SCHEDULE: R143 -/
  | schedule (slot : SlotId) (t : Option Nat)
  /-- ADVANCE: R144 -/
  | advance
  /-- REQUEST_BUS: R166 -/
  | requestBus (unit : Requester) (c : Nat)
  /-- IDLE: R169 -/
  | idle (c : Nat)
  /-- SET_GPIO_BIT: R305 -/
  | setGpioBit (i : BitVec 3) (v : Bool)
  /-- PUSH_SAMPLE: R454 -/
  | pushSample (w : Word)
  /-- FIRE: R145 -/
  | fire
  /-- GRANT_DMA: R163 -/
  | grantDma
  /-- GRANT_BLIT: R164 -/
  | grantBlit
  /-- BLIT_PHASE: R222 -/
  | blitPhase
  /-- DMA_WORD: R404 -/
  | dmaWord
  /-- REG.BLIT.HALFTONE: R200 -/
  | regBlitHalftone (n : BitVec 4) (acc : Acc16)
  /-- REG.BLIT.SRC_XINC: R201 -/
  | regBlitSrcXinc (acc : Acc16)
  /-- REG.BLIT.SRC_YINC: R201 -/
  | regBlitSrcYinc (acc : Acc16)
  /-- REG.BLIT.SRC_ADDR.H: R202 -/
  | regBlitSrcAddrH (acc : Acc16)
  /-- REG.BLIT.SRC_ADDR.L: R202 -/
  | regBlitSrcAddrL (acc : Acc16)
  /-- REG.BLIT.ENDMASK1: R203 -/
  | regBlitEndmask1 (acc : Acc16)
  /-- REG.BLIT.ENDMASK2: R203 -/
  | regBlitEndmask2 (acc : Acc16)
  /-- REG.BLIT.ENDMASK3: R203 -/
  | regBlitEndmask3 (acc : Acc16)
  /-- REG.BLIT.DST_XINC: R201 -/
  | regBlitDstXinc (acc : Acc16)
  /-- REG.BLIT.DST_YINC: R201 -/
  | regBlitDstYinc (acc : Acc16)
  /-- REG.BLIT.DST_ADDR.H: R202 -/
  | regBlitDstAddrH (acc : Acc16)
  /-- REG.BLIT.DST_ADDR.L: R202 -/
  | regBlitDstAddrL (acc : Acc16)
  /-- REG.BLIT.X_COUNT: R204 -/
  | regBlitXCount (acc : Acc16)
  /-- REG.BLIT.Y_COUNT: R205 -/
  | regBlitYCount (acc : Acc16)
  /-- REG.BLIT.HOP: R206 -/
  | regBlitHop (acc : Acc8)
  /-- REG.BLIT.OP: R207 -/
  | regBlitOp (acc : Acc8)
  /-- REG.BLIT.CTRL.read: R208 -/
  | regBlitCtrlRead
  /-- REG.BLIT.CTRL.write: R209 -/
  | regBlitCtrlWrite (v : Byte)
  /-- REG.BLIT.SKEW: R210 -/
  | regBlitSkew (acc : Acc8)
  /-- REG.MFP.GPIP: R280 -/
  | regMfpGpip (acc : Acc8)
  /-- REG.MFP.AER: R281 -/
  | regMfpAer (acc : Acc8)
  /-- REG.MFP.DDR: R282 -/
  | regMfpDdr (acc : Acc8)
  /-- REG.MFP.IERA: R283 -/
  | regMfpIera (acc : Acc8)
  /-- REG.MFP.IERB: R283 -/
  | regMfpIerb (acc : Acc8)
  /-- REG.MFP.IPRA: R284 -/
  | regMfpIpra (acc : Acc8)
  /-- REG.MFP.IPRB: R284 -/
  | regMfpIprb (acc : Acc8)
  /-- REG.MFP.ISRA: R285 -/
  | regMfpIsra (acc : Acc8)
  /-- REG.MFP.ISRB: R285 -/
  | regMfpIsrb (acc : Acc8)
  /-- REG.MFP.IMRA: R286 -/
  | regMfpImra (acc : Acc8)
  /-- REG.MFP.IMRB: R286 -/
  | regMfpImrb (acc : Acc8)
  /-- REG.MFP.VR: R287 -/
  | regMfpVr (acc : Acc8)
  /-- REG.MFP.TACR: R288 -/
  | regMfpTacr (acc : Acc8)
  /-- REG.MFP.TBCR: R288 -/
  | regMfpTbcr (acc : Acc8)
  /-- REG.MFP.TCDCR: R289 -/
  | regMfpTcdcr (acc : Acc8)
  /-- REG.MFP.TADR: R290 -/
  | regMfpTadr (acc : Acc8)
  /-- REG.MFP.TBDR: R290 -/
  | regMfpTbdr (acc : Acc8)
  /-- REG.MFP.TCDR: R290 -/
  | regMfpTcdr (acc : Acc8)
  /-- REG.MFP.TDDR: R290 -/
  | regMfpTddr (acc : Acc8)
  /-- REG.DMA.DATA.count: R384 -/
  | regDmaDataCount (acc : Acc16)
  /-- REG.DMA.DATA.controller: R385 -/
  | regDmaDataController (acc : Acc16)
  /-- REG.DMA.MODE: R381 -/
  | regDmaMode (w : Wr16)
  /-- REG.DMA.STATUS: R383 -/
  | regDmaStatus (l : Lane)
  /-- REG.DMA.ADDR_HI: R386 -/
  | regDmaAddrHi (acc : Acc8)
  /-- REG.DMA.ADDR_MID: R386 -/
  | regDmaAddrMid (acc : Acc8)
  /-- REG.DMA.ADDR_LO: R386 -/
  | regDmaAddrLo (acc : Acc8)
  /-- REG.VID.SYNC: R449 -/
  | regVidSync (acc : Acc8)
  /-- REG.VID.PALETTE.read: R443 -/
  | regVidPaletteRead (n : BitVec 4) (l : Lane)
  /-- REG.VID.PALETTE.write: R444 -/
  | regVidPaletteWrite (n : BitVec 4) (w : Wr16)
  /-- REG.VID.SHIFT_MODE.read: R445 -/
  | regVidShiftModeRead
  /-- REG.VID.SHIFT_MODE.write: R446 -/
  | regVidShiftModeWrite (v : Byte)
  /-- REG.VID.HSCROLL: R448 -/
  | regVidHscroll (acc : Acc8)
  /-- REG.SND.SND_CTRL: R457 -/
  | regSndSndCtrl (acc : Acc8)
  /-- REG.SND.SND_MODE: R458 -/
  | regSndSndMode (acc : Acc8)
  /-- OP_ZERO: R244 -/
  | opZero
  /-- OP_AND: R245 -/
  | opAnd
  /-- OP_AND_NOTD: R246 -/
  | opAndNotd
  /-- OP_SRC: R247 -/
  | opSrc
  /-- OP_NOTS_AND: R248 -/
  | opNotsAnd
  /-- OP_DST: R249 -/
  | opDst
  /-- OP_XOR: R250 -/
  | opXor
  /-- OP_OR: R251 -/
  | opOr
  /-- OP_NOR: R252 -/
  | opNor
  /-- OP_XNOR: R253 -/
  | opXnor
  /-- OP_NOTD: R254 -/
  | opNotd
  /-- OP_OR_NOTD: R255 -/
  | opOrNotd
  /-- OP_NOTS: R256 -/
  | opNots
  /-- OP_NOTS_OR: R257 -/
  | opNotsOr
  /-- OP_NAND: R258 -/
  | opNand
  /-- OP_ONE: R259 -/
  | opOne
  /-- HOP_ONES: R240 -/
  | hopOnes
  /-- HOP_HALFTONE: R241 -/
  | hopHalftone
  /-- HOP_SOURCE: R242 -/
  | hopSource
  /-- HOP_SRC_AND_HT: R243 -/
  | hopSrcAndHt
  /-- TM_STOP: R320 -/
  | tmStop (t : TimerAB)
  /-- TM_DIV4: R321 -/
  | tmDiv4 (t : TimerAB)
  /-- TM_DIV10: R322 -/
  | tmDiv10 (t : TimerAB)
  /-- TM_DIV16: R323 -/
  | tmDiv16 (t : TimerAB)
  /-- TM_DIV50: R324 -/
  | tmDiv50 (t : TimerAB)
  /-- TM_DIV64: R325 -/
  | tmDiv64 (t : TimerAB)
  /-- TM_DIV100: R326 -/
  | tmDiv100 (t : TimerAB)
  /-- TM_DIV200: R327 -/
  | tmDiv200 (t : TimerAB)
  /-- TM_EVENT: R328 -/
  | tmEvent (t : TimerAB)
  /-- TM_RSV.9: R329 -/
  | tmRsv9 (t : TimerAB)
  /-- TM_RSV.10: R329 -/
  | tmRsv10 (t : TimerAB)
  /-- TM_RSV.11: R329 -/
  | tmRsv11 (t : TimerAB)
  /-- TM_RSV.12: R329 -/
  | tmRsv12 (t : TimerAB)
  /-- TM_RSV.13: R329 -/
  | tmRsv13 (t : TimerAB)
  /-- TM_RSV.14: R329 -/
  | tmRsv14 (t : TimerAB)
  /-- TM_RSV.15: R329 -/
  | tmRsv15 (t : TimerAB)
  /-- TM_STOP.CD: R320 -/
  | tmStopCd (t : TimerCD)
  /-- TM_DIV4.CD: R321 -/
  | tmDiv4Cd (t : TimerCD)
  /-- TM_DIV10.CD: R322 -/
  | tmDiv10Cd (t : TimerCD)
  /-- TM_DIV16.CD: R323 -/
  | tmDiv16Cd (t : TimerCD)
  /-- TM_DIV50.CD: R324 -/
  | tmDiv50Cd (t : TimerCD)
  /-- TM_DIV64.CD: R325 -/
  | tmDiv64Cd (t : TimerCD)
  /-- TM_DIV100.CD: R326 -/
  | tmDiv100Cd (t : TimerCD)
  /-- TM_DIV200.CD: R327 -/
  | tmDiv200Cd (t : TimerCD)
  /-- DMA_READ: R390 -/
  | dmaRead
  /-- DMA_WRITE: R391 -/
  | dmaWrite
  /-- RES_LOW: R447 -/
  | resLow
  /-- RES_MED: R447 -/
  | resMed
  /-- RES_HIGH: R447 -/
  | resHigh
  /-- RES_RSV3: R447 -/
  | resRsv3
  /-- FREQ_60: R449 -/
  | freq60
  /-- FREQ_50: R449 -/
  | freq50
  /-- RATE_0: R458 -/
  | rate0
  /-- RATE_1: R458 -/
  | rate1
  /-- RATE_2: R458 -/
  | rate2
  /-- RATE_3: R458 -/
  | rate3
  /-- SND_OFF: R457 -/
  | sndOff
  /-- SND_ON: R457 -/
  | sndOn
deriving DecidableEq, Repr

end Sys2Proof
end

