-- ==== Sys2Proof/Machine/Dispatch.lean ====
section
/-! DEFINITION. One arm per constructor of Instr: the meaning of each row of spec/opcode_table.json. -/

namespace Sys2Proof.Machine

def exec (i : Instr) (s : State) : Host.Outcome State Fault Refusal :=
  match i with
  | .run n => Sys2Proof.Machine.execRun n s
  | .rdB a => Sys2Proof.Machine.execRdB a s
  | .rdW a => Sys2Proof.Machine.execRdW a s
  | .wrB a v => Sys2Proof.Machine.execWrB a v s
  | .wrW a v => Sys2Proof.Machine.execWrW a v s
  | .iack l => Sys2Proof.Machine.execIack l s
  | .gpio n v => Sys2Proof.Machine.execGpio n v s
  | .int src => Sys2Proof.Machine.execInt src s
  | .tai v => Sys2Proof.Machine.execTai v s
  | .dbin b => Sys2Proof.Machine.execDbin b s
  | .dbout => Sys2Proof.Machine.execDbout s
  | .resetC => Sys2Proof.Machine.execResetC s
  | .resetW => Sys2Proof.Machine.execResetW s
  | .snap => Sys2Proof.Machine.execSnap s
  | .restore d => Sys2Proof.Machine.execRestore d s
  | .schedule slot t => Sys2Proof.Machine.execSchedule slot t s
  | .advance => Sys2Proof.Machine.execAdvance s
  | .requestBus unit c => Sys2Proof.Machine.execRequestBus unit c s
  | .idle c => Sys2Proof.Machine.execIdle c s
  | .setGpioBit n v => Sys2Proof.Machine.execSetGpioBit n v s
  | .pushSample w => Sys2Proof.Machine.execPushSample w s
  | .fire => Sys2Proof.Machine.execFire s
  | .grantDma => Sys2Proof.Machine.execGrantDma s
  | .grantBlit => Sys2Proof.Machine.execGrantBlit s
  | .blitPhase => Sys2Proof.Machine.execBlitPhase s
  | .dmaWord => Sys2Proof.Machine.execDmaWord s
  | .regBlitHalftone n acc => Sys2Proof.Machine.execRegBlitHalftone n acc s
  | .regBlitSrcXinc acc => Sys2Proof.Machine.execRegBlitSrcXinc acc s
  | .regBlitSrcYinc acc => Sys2Proof.Machine.execRegBlitSrcYinc acc s
  | .regBlitSrcAddrH acc => Sys2Proof.Machine.execRegBlitSrcAddrH acc s
  | .regBlitSrcAddrL acc => Sys2Proof.Machine.execRegBlitSrcAddrL acc s
  | .regBlitEndmask1 acc => Sys2Proof.Machine.execRegBlitEndmask1 acc s
  | .regBlitEndmask2 acc => Sys2Proof.Machine.execRegBlitEndmask2 acc s
  | .regBlitEndmask3 acc => Sys2Proof.Machine.execRegBlitEndmask3 acc s
  | .regBlitDstXinc acc => Sys2Proof.Machine.execRegBlitDstXinc acc s
  | .regBlitDstYinc acc => Sys2Proof.Machine.execRegBlitDstYinc acc s
  | .regBlitDstAddrH acc => Sys2Proof.Machine.execRegBlitDstAddrH acc s
  | .regBlitDstAddrL acc => Sys2Proof.Machine.execRegBlitDstAddrL acc s
  | .regBlitXCount acc => Sys2Proof.Machine.execRegBlitXCount acc s
  | .regBlitYCount acc => Sys2Proof.Machine.execRegBlitYCount acc s
  | .regBlitHop acc => Sys2Proof.Machine.execRegBlitHop acc s
  | .regBlitOp acc => Sys2Proof.Machine.execRegBlitOp acc s
  | .regBlitCtrlRead => Sys2Proof.Machine.execRegBlitCtrlRead s
  | .regBlitCtrlWrite v => Sys2Proof.Machine.execRegBlitCtrlWrite v s
  | .regBlitSkew acc => Sys2Proof.Machine.execRegBlitSkew acc s
  | .regMfpGpip acc => Sys2Proof.Machine.execRegMfpGpip acc s
  | .regMfpAer acc => Sys2Proof.Machine.execRegMfpAer acc s
  | .regMfpDdr acc => Sys2Proof.Machine.execRegMfpDdr acc s
  | .regMfpIera acc => Sys2Proof.Machine.execRegMfpIera acc s
  | .regMfpIerb acc => Sys2Proof.Machine.execRegMfpIerb acc s
  | .regMfpIpra acc => Sys2Proof.Machine.execRegMfpIpra acc s
  | .regMfpIprb acc => Sys2Proof.Machine.execRegMfpIprb acc s
  | .regMfpIsra acc => Sys2Proof.Machine.execRegMfpIsra acc s
  | .regMfpIsrb acc => Sys2Proof.Machine.execRegMfpIsrb acc s
  | .regMfpImra acc => Sys2Proof.Machine.execRegMfpImra acc s
  | .regMfpImrb acc => Sys2Proof.Machine.execRegMfpImrb acc s
  | .regMfpVr acc => Sys2Proof.Machine.execRegMfpVr acc s
  | .regMfpTacr acc => Sys2Proof.Machine.execRegMfpTacr acc s
  | .regMfpTbcr acc => Sys2Proof.Machine.execRegMfpTbcr acc s
  | .regMfpTcdcr acc => Sys2Proof.Machine.execRegMfpTcdcr acc s
  | .regMfpTadr acc => Sys2Proof.Machine.execRegMfpTadr acc s
  | .regMfpTbdr acc => Sys2Proof.Machine.execRegMfpTbdr acc s
  | .regMfpTcdr acc => Sys2Proof.Machine.execRegMfpTcdr acc s
  | .regMfpTddr acc => Sys2Proof.Machine.execRegMfpTddr acc s
  | .regDmaDataCount acc => Sys2Proof.Machine.execRegDmaDataCount acc s
  | .regDmaDataController acc => Sys2Proof.Machine.execRegDmaDataController acc s
  | .regDmaMode w => Sys2Proof.Machine.execRegDmaMode w s
  | .regDmaStatus l => Sys2Proof.Machine.execRegDmaStatus l s
  | .regDmaAddrHi acc => Sys2Proof.Machine.execRegDmaAddrHi acc s
  | .regDmaAddrMid acc => Sys2Proof.Machine.execRegDmaAddrMid acc s
  | .regDmaAddrLo acc => Sys2Proof.Machine.execRegDmaAddrLo acc s
  | .regVidSync acc => Sys2Proof.Machine.execRegVidSync acc s
  | .regVidPaletteRead n l => Sys2Proof.Machine.execRegVidPaletteRead n l s
  | .regVidPaletteWrite n w => Sys2Proof.Machine.execRegVidPaletteWrite n w s
  | .regVidShiftModeRead => Sys2Proof.Machine.execRegVidShiftModeRead s
  | .regVidShiftModeWrite v => Sys2Proof.Machine.execRegVidShiftModeWrite v s
  | .regVidHscroll acc => Sys2Proof.Machine.execRegVidHscroll acc s
  | .regSndSndCtrl acc => Sys2Proof.Machine.execRegSndSndCtrl acc s
  | .regSndSndMode acc => Sys2Proof.Machine.execRegSndSndMode acc s
  | .opZero => Sys2Proof.Machine.execOpZero s
  | .opAnd => Sys2Proof.Machine.execOpAnd s
  | .opAndNotd => Sys2Proof.Machine.execOpAndNotd s
  | .opSrc => Sys2Proof.Machine.execOpSrc s
  | .opNotsAnd => Sys2Proof.Machine.execOpNotsAnd s
  | .opDst => Sys2Proof.Machine.execOpDst s
  | .opXor => Sys2Proof.Machine.execOpXor s
  | .opOr => Sys2Proof.Machine.execOpOr s
  | .opNor => Sys2Proof.Machine.execOpNor s
  | .opXnor => Sys2Proof.Machine.execOpXnor s
  | .opNotd => Sys2Proof.Machine.execOpNotd s
  | .opOrNotd => Sys2Proof.Machine.execOpOrNotd s
  | .opNots => Sys2Proof.Machine.execOpNots s
  | .opNotsOr => Sys2Proof.Machine.execOpNotsOr s
  | .opNand => Sys2Proof.Machine.execOpNand s
  | .opOne => Sys2Proof.Machine.execOpOne s
  | .hopOnes => Sys2Proof.Machine.execHopOnes s
  | .hopHalftone => Sys2Proof.Machine.execHopHalftone s
  | .hopSource => Sys2Proof.Machine.execHopSource s
  | .hopSrcAndHt => Sys2Proof.Machine.execHopSrcAndHt s
  | .tmStop t => Sys2Proof.Machine.execTmStop t s
  | .tmDiv4 t => Sys2Proof.Machine.execTmDiv4 t s
  | .tmDiv10 t => Sys2Proof.Machine.execTmDiv10 t s
  | .tmDiv16 t => Sys2Proof.Machine.execTmDiv16 t s
  | .tmDiv50 t => Sys2Proof.Machine.execTmDiv50 t s
  | .tmDiv64 t => Sys2Proof.Machine.execTmDiv64 t s
  | .tmDiv100 t => Sys2Proof.Machine.execTmDiv100 t s
  | .tmDiv200 t => Sys2Proof.Machine.execTmDiv200 t s
  | .tmEvent t => Sys2Proof.Machine.execTmEvent t s
  | .tmRsv9 t => Sys2Proof.Machine.execTmRsv9 t s
  | .tmRsv10 t => Sys2Proof.Machine.execTmRsv10 t s
  | .tmRsv11 t => Sys2Proof.Machine.execTmRsv11 t s
  | .tmRsv12 t => Sys2Proof.Machine.execTmRsv12 t s
  | .tmRsv13 t => Sys2Proof.Machine.execTmRsv13 t s
  | .tmRsv14 t => Sys2Proof.Machine.execTmRsv14 t s
  | .tmRsv15 t => Sys2Proof.Machine.execTmRsv15 t s
  | .tmStopCd t => Sys2Proof.Machine.execTmStopCd t s
  | .tmDiv4Cd t => Sys2Proof.Machine.execTmDiv4Cd t s
  | .tmDiv10Cd t => Sys2Proof.Machine.execTmDiv10Cd t s
  | .tmDiv16Cd t => Sys2Proof.Machine.execTmDiv16Cd t s
  | .tmDiv50Cd t => Sys2Proof.Machine.execTmDiv50Cd t s
  | .tmDiv64Cd t => Sys2Proof.Machine.execTmDiv64Cd t s
  | .tmDiv100Cd t => Sys2Proof.Machine.execTmDiv100Cd t s
  | .tmDiv200Cd t => Sys2Proof.Machine.execTmDiv200Cd t s
  | .dmaRead => Sys2Proof.Machine.execDmaRead s
  | .dmaWrite => Sys2Proof.Machine.execDmaWrite s
  | .resLow => Sys2Proof.Machine.execResLow s
  | .resMed => Sys2Proof.Machine.execResMed s
  | .resHigh => Sys2Proof.Machine.execResHigh s
  | .resRsv3 => Sys2Proof.Machine.execResRsv3 s
  | .freq60 => Sys2Proof.Machine.execFreq60 s
  | .freq50 => Sys2Proof.Machine.execFreq50 s
  | .rate0 => Sys2Proof.Machine.execRate0 s
  | .rate1 => Sys2Proof.Machine.execRate1 s
  | .rate2 => Sys2Proof.Machine.execRate2 s
  | .rate3 => Sys2Proof.Machine.execRate3 s
  | .sndOff => Sys2Proof.Machine.execSndOff s
  | .sndOn => Sys2Proof.Machine.execSndOn s

end Sys2Proof.Machine
end

