-- ==== Sys2Proof/WellFormed.lean ====
section
/-! DEFINITION. Which terms of Instr are operations of the block as 30_encoding.md R111 and R129 give their
operands: RUN takes a natural greater than 0, RD.W and WR.W an even address, INT one of the sources 12, 11,
10, 9, RESTORE a dump. A natural operand fits the 4 bytes its encoding has, an address its 3 bytes (R130). `IACK l` with l other than
`MFP_IPL` depends on the configuration and is refused by its meaning. -/

namespace Sys2Proof

open Sys2Proof.Machine

/-- A natural operand fits its 4 encoding bytes (30_encoding.md R130). -/
def fitsFourBytes (n : Nat) : Bool := decide (n < 0x100000000)

/-- An address operand fits its 3 encoding bytes (30_encoding.md R130). -/
def fitsThreeBytes (a : Addr) : Bool := decide (a.toNat < 0x1000000)

/-- The operands are ones the encoding admits (R111, R129, R130). -/
def Instr.wf : Instr → Bool
  | .run n => decide (0 < n) && fitsFourBytes n
  | .rdB a => fitsThreeBytes a
  | .rdW a => fitsThreeBytes a && decide (a.toNat % 2 = 0)
  | .wrB a _ => fitsThreeBytes a
  | .wrW a _ => fitsThreeBytes a && decide (a.toNat % 2 = 0)
  | .int src => src == 12 || src == 11 || src == 10 || src == 9
  | .restore d => d.isSome
  | .schedule _ (some t) => fitsFourBytes t
  | .requestBus _ c => fitsFourBytes c
  | .idle c => fitsFourBytes c
  | _ => true

end Sys2Proof
end

