-- ==== Sys2Proof/Decode.lean ====
section
/-! DEFINITION. Decoding and, after it, encoding (30_encoding.md R110 to R130; spec/opcode_table.json).
`decode` is total on any packet and rejects by name. Formats CMD and CALL are the 8-bit codes of R111, R112
with operands big-endian as R130 lays them out; format REG is matched by `(a & mask) = match` (R113), the
table's rows being written out below; the field-code formats are the codes of R120 to R127. What the spec
gives no bytes for (the operands of CALL rows, the direction, width and value of a register access, the timer
of a mode code) has a layout of the model's own, marked DESIGN CHOICE in entry 8. Internal steps have no
encoding (R110). -/

namespace Sys2Proof

open Sys2Proof.Machine

/-- Why a packet is no operation of the block (30_encoding.md R129). -/
inductive DecodeError where
  /-- no byte at all -/
  | empty
  /-- a code that stands for no row of the format -/
  | unknownCode
  /-- fewer or more operand bytes than the row has -/
  | wrongLength
  /-- an operand byte holds more than the operand's bits -/
  | operandRange
  /-- an address that matches no row of the register map -/
  | noRegister
  /-- a dump that no row of this code takes -/
  | strayDump
deriving DecidableEq, Repr

/-- A 4-byte operand, big-endian (R130). -/
def natOf4 (b3 b2 b1 b0 : Byte) : Nat := (b3 ++ b2 ++ b1 ++ b0 : BitVec 32).toNat

/-- The 4 bytes of a natural operand, big-endian (R130). -/
def bytesOf4 (n : Nat) : List Byte :=
  let v := BitVec.ofNat 32 n
  [v.extractLsb' 24 8, v.extractLsb' 16 8, v.extractLsb' 8 8, v.extractLsb' 0 8]

/-- An operand of `w` bits held in a byte whose other bits are 0. -/
def narrow (w : Nat) (b : Byte) : Option (BitVec w) :=
  if b.toNat < 2 ^ w then some (b.setWidth w) else none

/-- A one-bit operand held in a byte. -/
def narrowBit (b : Byte) : Option Bool := (narrow 1 b).map (fun v => v == 1)

/-- A one-bit operand as a byte. -/
def byteOfBit (b : Bool) : Byte := if b then 1 else 0

/-- The value in an `Option`, or a named error. -/
def orElse {α : Type} (e : DecodeError) : Option α → Except DecodeError α
  | some x => .ok x
  | none => .error e

/-- Slot ids numbered in the order of 10_state.md R23 (entry 8). -/
def slotOfCode (b : Byte) : Option SlotId := slotIds[b.toNat]?

/-- The number of a slot (entry 8). -/
def slotCode : SlotId → Byte
  | .ta => 0
  | .tb => 1
  | .tc => 2
  | .td => 3
  | .blitResume => 4
  | .vidLine => 5
  | .vidDeOn => 6
  | .vidDeOff => 7
  | .vidHb => 8
  | .sndDrain => 9

/-- An operation with no operand bytes. -/
def bare (i : Instr) : List Byte → Except DecodeError Instr
  | [] => .ok i
  | _ => .error .wrongLength

/-- The operands of RUN. -/
def decodeRun : List Byte → Except DecodeError Instr
  | [b3, b2, b1, b0] => .ok (.run (natOf4 b3 b2 b1 b0))
  | _ => .error .wrongLength

/-- The address operand of RD.B. -/
def decodeRdB : List Byte → Except DecodeError Instr
  | [h, m, l] => .ok (.rdB (mkAddr h m l))
  | _ => .error .wrongLength

/-- The address operand of RD.W. -/
def decodeRdW : List Byte → Except DecodeError Instr
  | [h, m, l] => .ok (.rdW (mkAddr h m l))
  | _ => .error .wrongLength

/-- The address and value of WR.B. -/
def decodeWrB : List Byte → Except DecodeError Instr
  | [h, m, l, v] => .ok (.wrB (mkAddr h m l) v)
  | _ => .error .wrongLength

/-- The address and value of WR.W. -/
def decodeWrW : List Byte → Except DecodeError Instr
  | [h, m, l, v1, v0] => .ok (.wrW (mkAddr h m l) (mkWord v1 v0))
  | _ => .error .wrongLength

/-- The level of IACK. -/
def decodeIack : List Byte → Except DecodeError Instr
  | [b] => (orElse .operandRange (narrow 3 b)).map .iack
  | _ => .error .wrongLength

/-- The line and level of GPIO. -/
def decodeGpio : List Byte → Except DecodeError Instr
  | [i, v] =>
    match narrow 3 i, narrowBit v with
    | some i, some v => .ok (.gpio i v)
    | _, _ => .error .operandRange
  | _ => .error .wrongLength

/-- The source of INT. -/
def decodeInt : List Byte → Except DecodeError Instr
  | [b] => (orElse .operandRange (narrow 4 b)).map .int
  | _ => .error .wrongLength

/-- The level of TAI. -/
def decodeTai : List Byte → Except DecodeError Instr
  | [b] => (orElse .operandRange (narrowBit b)).map .tai
  | _ => .error .wrongLength

/-- The byte of DBIN. -/
def decodeDbin : List Byte → Except DecodeError Instr
  | [b] => .ok (.dbin b)
  | _ => .error .wrongLength

/-- Format CMD (R111). RESTORE takes the packet's dump; no other command has one. -/
def decodeCmd (d : Option Dump) : List Byte → Except DecodeError Instr
  | [] => .error .empty
  | code :: ops =>
    if code = 0x0E then bare (.restore d) ops
    else if d.isSome then .error .strayDump
    else if code = 0x00 then decodeRun ops
    else if code = 0x01 then decodeRdB ops
    else if code = 0x02 then decodeRdW ops
    else if code = 0x03 then decodeWrB ops
    else if code = 0x04 then decodeWrW ops
    else if code = 0x05 then decodeIack ops
    else if code = 0x06 then decodeGpio ops
    else if code = 0x07 then decodeInt ops
    else if code = 0x08 then decodeTai ops
    else if code = 0x09 then decodeDbin ops
    else if code = 0x0A then bare .dbout ops
    else if code = 0x0B then bare .resetC ops
    else if code = 0x0C then bare .resetW ops
    else if code = 0x0D then bare .snap ops
    else .error .unknownCode

/-- The operands of SCHEDULE (entry 8): slot, then 0 and a due time or 1 for `NEVER` with the time 0. -/
def decodeSchedule : List Byte → Except DecodeError Instr
  | [s, tag, b3, b2, b1, b0] =>
    match slotOfCode s with
    | none => .error .operandRange
    | some id =>
      if tag = 0 then .ok (.schedule id (some (natOf4 b3 b2 b1 b0)))
      else if tag = 1 ∧ natOf4 b3 b2 b1 b0 = 0 then .ok (.schedule id none)
      else .error .operandRange
  | _ => .error .wrongLength

/-- The operands of REQUEST_BUS (entry 8): 0 BLIT, 1 DMA, then the ticks. -/
def decodeRequestBus : List Byte → Except DecodeError Instr
  | [u, b3, b2, b1, b0] =>
    if u = 0 then .ok (.requestBus .blit (natOf4 b3 b2 b1 b0))
    else if u = 1 then .ok (.requestBus .dma (natOf4 b3 b2 b1 b0))
    else .error .operandRange
  | _ => .error .wrongLength

/-- The ticks of IDLE (entry 8). -/
def decodeIdle : List Byte → Except DecodeError Instr
  | [b3, b2, b1, b0] => .ok (.idle (natOf4 b3 b2 b1 b0))
  | _ => .error .wrongLength

/-- The line and level of SET_GPIO_BIT (entry 8). -/
def decodeSetGpioBit : List Byte → Except DecodeError Instr
  | [i, v] =>
    match narrow 3 i, narrowBit v with
    | some i, some v => .ok (.setGpioBit i v)
    | _, _ => .error .operandRange
  | _ => .error .wrongLength

/-- The sample of PUSH_SAMPLE (entry 8). -/
def decodePushSample : List Byte → Except DecodeError Instr
  | [h, l] => .ok (.pushSample (mkWord h l))
  | _ => .error .wrongLength

/-- Format CALL (R112). -/
def decodeCall : List Byte → Except DecodeError Instr
  | [] => .error .empty
  | code :: ops =>
    if code = 0x10 then decodeSchedule ops
    else if code = 0x11 then bare .advance ops
    else if code = 0x12 then decodeRequestBus ops
    else if code = 0x13 then decodeIdle ops
    else if code = 0x14 then decodeSetGpioBit ops
    else if code = 0x15 then decodePushSample ops
    else .error .unknownCode

/-- A row of the register map whose register has two bytes (R113): `match`, `mask`, and the instruction for
an access, `n` being address bits 4:1. -/
structure RegRow16 where
  value : Addr
  mask  : Addr
  instr : BitVec 4 → Acc16 → Instr

/-- A row of the register map whose register has one byte (R113); its mask is all ones. -/
structure RegRow8 where
  value : Addr
  instr : Acc8 → Instr

/-- The two-byte rows of spec/opcode_table.json, format REG, in its order. A row whose read and write differ
stands once, and the access tells its two constructors apart. -/
def regRows16 : List RegRow16 := [
  ⟨0xFF8A00, 0xFFFFE0, fun n acc => .regBlitHalftone n acc⟩,
  ⟨0xFF8A20, 0xFFFFFE, fun _ acc => .regBlitSrcXinc acc⟩,
  ⟨0xFF8A22, 0xFFFFFE, fun _ acc => .regBlitSrcYinc acc⟩,
  ⟨0xFF8A24, 0xFFFFFE, fun _ acc => .regBlitSrcAddrH acc⟩,
  ⟨0xFF8A26, 0xFFFFFE, fun _ acc => .regBlitSrcAddrL acc⟩,
  ⟨0xFF8A28, 0xFFFFFE, fun _ acc => .regBlitEndmask1 acc⟩,
  ⟨0xFF8A2A, 0xFFFFFE, fun _ acc => .regBlitEndmask2 acc⟩,
  ⟨0xFF8A2C, 0xFFFFFE, fun _ acc => .regBlitEndmask3 acc⟩,
  ⟨0xFF8A2E, 0xFFFFFE, fun _ acc => .regBlitDstXinc acc⟩,
  ⟨0xFF8A30, 0xFFFFFE, fun _ acc => .regBlitDstYinc acc⟩,
  ⟨0xFF8A32, 0xFFFFFE, fun _ acc => .regBlitDstAddrH acc⟩,
  ⟨0xFF8A34, 0xFFFFFE, fun _ acc => .regBlitDstAddrL acc⟩,
  ⟨0xFF8A36, 0xFFFFFE, fun _ acc => .regBlitXCount acc⟩,
  ⟨0xFF8A38, 0xFFFFFE, fun _ acc => .regBlitYCount acc⟩,
  ⟨0xFF8604, 0xFFFFFE, fun _ acc => .regDmaDataCount acc⟩,
  ⟨0xFF8606, 0xFFFFFE, fun _ acc => match acc with | .rd l => .regDmaStatus l | .wr w => .regDmaMode w⟩,
  ⟨0xFF8240, 0xFFFFE0, fun n acc => match acc with | .rd l => .regVidPaletteRead n l | .wr w => .regVidPaletteWrite n w⟩]

/-- The one-byte rows of spec/opcode_table.json, format REG, in its order. -/
def regRows8 : List RegRow8 := [
  ⟨0xFF8A3A, fun acc => .regBlitHop acc⟩,
  ⟨0xFF8A3B, fun acc => .regBlitOp acc⟩,
  ⟨0xFF8A3C, fun acc => match acc with | .rd => .regBlitCtrlRead | .wr v => .regBlitCtrlWrite v⟩,
  ⟨0xFF8A3D, fun acc => .regBlitSkew acc⟩,
  ⟨0xFFFA01, fun acc => .regMfpGpip acc⟩,
  ⟨0xFFFA03, fun acc => .regMfpAer acc⟩,
  ⟨0xFFFA05, fun acc => .regMfpDdr acc⟩,
  ⟨0xFFFA07, fun acc => .regMfpIera acc⟩,
  ⟨0xFFFA09, fun acc => .regMfpIerb acc⟩,
  ⟨0xFFFA0B, fun acc => .regMfpIpra acc⟩,
  ⟨0xFFFA0D, fun acc => .regMfpIprb acc⟩,
  ⟨0xFFFA0F, fun acc => .regMfpIsra acc⟩,
  ⟨0xFFFA11, fun acc => .regMfpIsrb acc⟩,
  ⟨0xFFFA13, fun acc => .regMfpImra acc⟩,
  ⟨0xFFFA15, fun acc => .regMfpImrb acc⟩,
  ⟨0xFFFA17, fun acc => .regMfpVr acc⟩,
  ⟨0xFFFA19, fun acc => .regMfpTacr acc⟩,
  ⟨0xFFFA1B, fun acc => .regMfpTbcr acc⟩,
  ⟨0xFFFA1D, fun acc => .regMfpTcdcr acc⟩,
  ⟨0xFFFA1F, fun acc => .regMfpTadr acc⟩,
  ⟨0xFFFA21, fun acc => .regMfpTbdr acc⟩,
  ⟨0xFFFA23, fun acc => .regMfpTcdr acc⟩,
  ⟨0xFFFA25, fun acc => .regMfpTddr acc⟩,
  ⟨0xFF8609, fun acc => .regDmaAddrHi acc⟩,
  ⟨0xFF860B, fun acc => .regDmaAddrMid acc⟩,
  ⟨0xFF860D, fun acc => .regDmaAddrLo acc⟩,
  ⟨0xFF820A, fun acc => .regVidSync acc⟩,
  ⟨0xFF8260, fun acc => match acc with | .rd => .regVidShiftModeRead | .wr v => .regVidShiftModeWrite v⟩,
  ⟨0xFF8265, fun acc => .regVidHscroll acc⟩,
  ⟨0xFF8901, fun acc => .regSndSndCtrl acc⟩,
  ⟨0xFF8921, fun acc => .regSndSndMode acc⟩]

/-- The access of a two-byte row (entry 8): kind 0 RD.B, 1 RD.W, 2 WR.B, 3 WR.W; a byte access covers the
half `a[0]` names, a word access needs `a[0]` = 0; a read carries the value 0, a byte write the byte `v0`. -/
def access16 (odd : Bool) (kind v1 v0 : Byte) : Option Acc16 :=
  if kind = 0 ∧ v1 = 0 ∧ v0 = 0 then some (.rd (if odd then .lo else .hi))
  else if kind = 1 ∧ v1 = 0 ∧ v0 = 0 ∧ odd = false then some (.rd .both)
  else if kind = 2 ∧ v1 = 0 then some (.wr (if odd then .lo v0 else .hi v0))
  else if kind = 3 ∧ odd = false then some (.wr (.both (mkWord v1 v0)))
  else none

/-- The access of a one-byte row (entry 8): kind 0 RD.B, 2 WR.B. -/
def access8 (kind v1 v0 : Byte) : Option Acc8 :=
  if kind = 0 ∧ v1 = 0 ∧ v0 = 0 then some .rd
  else if kind = 2 ∧ v1 = 0 then some (.wr v0)
  else none

/-- The register row an address matches, with the access (R113). The DATA rows share their match; kinds 4 to
7 name the second of them, DATA.controller, with the access of kind - 4 (entry 8). -/
def decodeRegAt (a : Addr) (kind v1 v0 : Byte) : Except DecodeError Instr :=
  let odd := a.getLsbD 0
  if 4 ≤ kind.toNat then
    if a &&& 0xFFFFFE = 0xFF8604 then
      (orElse .operandRange (access16 odd (kind - 4) v1 v0)).map .regDmaDataController
    else .error .operandRange
  else
    match regRows16.find? (fun r => a &&& r.mask == r.value) with
    | some r => (orElse .operandRange (access16 odd kind v1 v0)).map (r.instr (a.extractLsb' 1 4))
    | none =>
      match regRows8.find? (fun r => a == r.value) with
      | some r => (orElse .operandRange (access8 kind v1 v0)).map r.instr
      | none => .error .noRegister

/-- Format REG: the address (3 bytes big-endian), the access kind, the value (entry 8). -/
def decodeReg : List Byte → Except DecodeError Instr
  | [h, m, l, kind, v1, v0] => decodeRegAt (mkAddr h m l) kind v1 v0
  | _ => .error .wrongLength

/-- Format BLIT_OP (R120), code 0 first. -/
def blitOpRows : List Instr := [
  .opZero, .opAnd, .opAndNotd, .opSrc, .opNotsAnd, .opDst, .opXor, .opOr, .opNor, .opXnor, .opNotd, .opOrNotd, .opNots, .opNotsOr, .opNand, .opOne]

/-- Format BLIT_HOP (R121). -/
def blitHopRows : List Instr := [
  .hopOnes, .hopHalftone, .hopSource, .hopSrcAndHt]

/-- Format TMODE_AB (R122). -/
def tmodeABRows : List (TimerAB → Instr) := [
  .tmStop, .tmDiv4, .tmDiv10, .tmDiv16, .tmDiv50, .tmDiv64, .tmDiv100, .tmDiv200, .tmEvent, .tmRsv9, .tmRsv10, .tmRsv11, .tmRsv12, .tmRsv13, .tmRsv14, .tmRsv15]

/-- Format TMODE_CD (R123). -/
def tmodeCDRows : List (TimerCD → Instr) := [
  .tmStopCd, .tmDiv4Cd, .tmDiv10Cd, .tmDiv16Cd, .tmDiv50Cd, .tmDiv64Cd, .tmDiv100Cd, .tmDiv200Cd]

/-- Format DMA_MODE (R124). -/
def dmaModeRows : List Instr := [.dmaRead, .dmaWrite]

/-- Format SHIFT_MODE (R125). -/
def shiftModeRows : List Instr := [.resLow, .resMed, .resHigh, .resRsv3]

/-- Format SYNC (R126). -/
def syncRows : List Instr := [.freq60, .freq50]

/-- Format SND_RATE (R127). -/
def sndRateRows : List Instr := [.rate0, .rate1, .rate2, .rate3]

/-- Format SND_CTRL (R127). -/
def sndCtrlRows : List Instr := [.sndOff, .sndOn]

/-- A field code with no operand: the code selects the row. -/
def decodeCode (rows : List Instr) : List Byte → Except DecodeError Instr
  | [] => .error .empty
  | [code] => orElse .unknownCode rows[code.toNat]?
  | _ => .error .wrongLength

/-- Timer A is 0, timer B 1 (entry 8). -/
def timerABOfCode (b : Byte) : Option TimerAB := if b = 0 then some .a else if b = 1 then some .b else none

/-- Timer C is 0, timer D 1 (entry 8). -/
def timerCDOfCode (b : Byte) : Option TimerCD := if b = 0 then some .c else if b = 1 then some .d else none

/-- A mode code of timer A or B, then the timer. -/
def decodeTmodeAB : List Byte → Except DecodeError Instr
  | [code, t] =>
    match tmodeABRows[code.toNat]?, timerABOfCode t with
    | some f, some t => .ok (f t)
    | none, _ => .error .unknownCode
    | _, none => .error .operandRange
  | [] => .error .empty
  | _ => .error .wrongLength

/-- A mode code of timer C or D, then the timer. -/
def decodeTmodeCD : List Byte → Except DecodeError Instr
  | [code, t] =>
    match tmodeCDRows[code.toNat]?, timerCDOfCode t with
    | some f, some t => .ok (f t)
    | none, _ => .error .unknownCode
    | _, none => .error .operandRange
  | [] => .error .empty
  | _ => .error .wrongLength

/-- The operation a packet stands for, or why it stands for none (R110, R129). -/
def decode (p : Packet) : Except DecodeError Instr :=
  if p.format = .cmd then decodeCmd p.dump p.bytes
  else if p.dump.isSome then .error .strayDump
  else
    match p.format with
    | .cmd => decodeCmd p.dump p.bytes
    | .call => decodeCall p.bytes
    | .reg => decodeReg p.bytes
    | .blitOp => decodeCode blitOpRows p.bytes
    | .blitHop => decodeCode blitHopRows p.bytes
    | .tmodeAB => decodeTmodeAB p.bytes
    | .tmodeCD => decodeTmodeCD p.bytes
    | .dmaMode => decodeCode dmaModeRows p.bytes
    | .shiftMode => decodeCode shiftModeRows p.bytes
    | .sync => decodeCode syncRows p.bytes
    | .sndRate => decodeCode sndRateRows p.bytes
    | .sndCtrl => decodeCode sndCtrlRows p.bytes

/-- How many bytes a packet of format CMD or CALL has, by its code (R111, R112, R130; entry 8). -/
def codeLength (code : Nat) : Nat :=
  if code = 0x00 then 5 else if code = 0x01 then 4 else if code = 0x02 then 4
  else if code = 0x03 then 5 else if code = 0x04 then 6 else if code = 0x05 then 2
  else if code = 0x06 then 3 else if code = 0x07 then 2 else if code = 0x08 then 2
  else if code = 0x09 then 2 else if code = 0x10 then 7 else if code = 0x12 then 6
  else if code = 0x13 then 5 else if code = 0x14 then 3 else if code = 0x15 then 3
  else 1

/-- The format a bare code of the table is read in: CMD or CALL where one has the code, else the first
format of the table that has it, BLIT_OP (entry 9). -/
def tableFormat (code : Nat) : Format :=
  if code ≤ 0x0E then .cmd else if 0x10 ≤ code ∧ code ≤ 0x15 then .call else .blitOp

/-- The packet of an operation whose bits are `w` as spec/opcode_table.json numbers them: a one-byte row is a
code followed by operand bytes 0, a 24-bit row a register address with a read of its byte (entry 9). -/
def tablePacket (nbits w : Nat) : Option Packet :=
  if nbits = 8 ∧ w < 0x100 then
    some ⟨tableFormat w, BitVec.ofNat 8 w :: List.replicate (codeLength w - 1) 0, none⟩
  else if nbits = 24 ∧ w < 0x1000000 then
    let a : Addr := BitVec.ofNat 32 w
    some ⟨.reg, [addrHi a, addrMid a, addrLo a, 0, 0, 0], none⟩
  else none

/-- The operation the decoder reads from an operation whose bits are `w` (entry 9). -/
def decodeTableWord (nbits w : Nat) : Option Instr :=
  match tablePacket nbits w with
  | some p => (decode p).toOption
  | none => none

/-! ### The encoder -/

/-- A packet of format CMD without a dump. -/
def cmdPacket (bytes : List Byte) : Packet := ⟨.cmd, bytes, none⟩

/-- A packet of format CALL. -/
def callPacket (bytes : List Byte) : Packet := ⟨.call, bytes, none⟩

/-- The 3 bytes of an address operand, big-endian (R130). -/
def bytesOfAddr (a : Addr) : List Byte := [addrHi a, addrMid a, addrLo a]

/-- The packet of an access to a two-byte register row at an even address; `second` is 4 for the second of
two rows that share a match (entry 8). -/
def encodeReg16 (a : Nat) (second : Byte) (acc : Acc16) : Packet :=
  match acc with
  | .rd .hi => ⟨.reg, bytesOfAddr (BitVec.ofNat 32 a) ++ [second, 0, 0], none⟩
  | .rd .lo => ⟨.reg, bytesOfAddr (BitVec.ofNat 32 (a + 1)) ++ [second, 0, 0], none⟩
  | .rd .both => ⟨.reg, bytesOfAddr (BitVec.ofNat 32 a) ++ [1 + second, 0, 0], none⟩
  | .wr (.hi v) => ⟨.reg, bytesOfAddr (BitVec.ofNat 32 a) ++ [2 + second, 0, v], none⟩
  | .wr (.lo v) => ⟨.reg, bytesOfAddr (BitVec.ofNat 32 (a + 1)) ++ [2 + second, 0, v], none⟩
  | .wr (.both v) => ⟨.reg, bytesOfAddr (BitVec.ofNat 32 a) ++ [3 + second, hiByte v, loByte v], none⟩

/-- The packet of an access to a one-byte register row. -/
def encodeReg8 (a : Nat) (acc : Acc8) : Packet :=
  match acc with
  | .rd => ⟨.reg, bytesOfAddr (BitVec.ofNat 32 a) ++ [0, 0, 0], none⟩
  | .wr v => ⟨.reg, bytesOfAddr (BitVec.ofNat 32 a) ++ [2, 0, v], none⟩

/-- The number of a timer in a TMODE_AB packet (entry 8). -/
def timerABCode : TimerAB → Byte
  | .a => 0
  | .b => 1

/-- The number of a timer in a TMODE_CD packet (entry 8). -/
def timerCDCode : TimerCD → Byte
  | .c => 0
  | .d => 1

/-- The packet of an operation; `none` for the internal steps, which have no encoding (R110). -/
def encode : Instr → Option Packet
  | .run n => some (cmdPacket (0x00 :: bytesOf4 n))
  | .rdB a => some (cmdPacket (0x01 :: bytesOfAddr a))
  | .rdW a => some (cmdPacket (0x02 :: bytesOfAddr a))
  | .wrB a v => some (cmdPacket (0x03 :: (bytesOfAddr a ++ [v])))
  | .wrW a v => some (cmdPacket (0x04 :: (bytesOfAddr a ++ [hiByte v, loByte v])))
  | .iack l => some (cmdPacket [0x05, l.setWidth 8])
  | .gpio i v => some (cmdPacket [0x06, i.setWidth 8, byteOfBit v])
  | .int src => some (cmdPacket [0x07, src.setWidth 8])
  | .tai v => some (cmdPacket [0x08, byteOfBit v])
  | .dbin b => some (cmdPacket [0x09, b])
  | .dbout => some (cmdPacket [0x0A])
  | .resetC => some (cmdPacket [0x0B])
  | .resetW => some (cmdPacket [0x0C])
  | .snap => some (cmdPacket [0x0D])
  | .restore d => some ⟨.cmd, [0x0E], d⟩
  | .schedule id (some t) => some (callPacket ([0x10, slotCode id, 0] ++ bytesOf4 t))
  | .schedule id none => some (callPacket [0x10, slotCode id, 1, 0, 0, 0, 0])
  | .advance => some (callPacket [0x11])
  | .requestBus .blit c => some (callPacket ([0x12, 0] ++ bytesOf4 c))
  | .requestBus .dma c => some (callPacket ([0x12, 1] ++ bytesOf4 c))
  | .idle c => some (callPacket (0x13 :: bytesOf4 c))
  | .setGpioBit i v => some (callPacket [0x14, i.setWidth 8, byteOfBit v])
  | .pushSample w => some (callPacket [0x15, hiByte w, loByte w])
  | .fire => none
  | .grantDma => none
  | .grantBlit => none
  | .blitPhase => none
  | .dmaWord => none
  | .regBlitHalftone n acc => some (encodeReg16 (0xFF8A00 + 2 * n.toNat) 0 acc)
  | .regBlitSrcXinc acc => some (encodeReg16 0xFF8A20 0 acc)
  | .regBlitSrcYinc acc => some (encodeReg16 0xFF8A22 0 acc)
  | .regBlitSrcAddrH acc => some (encodeReg16 0xFF8A24 0 acc)
  | .regBlitSrcAddrL acc => some (encodeReg16 0xFF8A26 0 acc)
  | .regBlitEndmask1 acc => some (encodeReg16 0xFF8A28 0 acc)
  | .regBlitEndmask2 acc => some (encodeReg16 0xFF8A2A 0 acc)
  | .regBlitEndmask3 acc => some (encodeReg16 0xFF8A2C 0 acc)
  | .regBlitDstXinc acc => some (encodeReg16 0xFF8A2E 0 acc)
  | .regBlitDstYinc acc => some (encodeReg16 0xFF8A30 0 acc)
  | .regBlitDstAddrH acc => some (encodeReg16 0xFF8A32 0 acc)
  | .regBlitDstAddrL acc => some (encodeReg16 0xFF8A34 0 acc)
  | .regBlitXCount acc => some (encodeReg16 0xFF8A36 0 acc)
  | .regBlitYCount acc => some (encodeReg16 0xFF8A38 0 acc)
  | .regBlitHop acc => some (encodeReg8 0xFF8A3A acc)
  | .regBlitOp acc => some (encodeReg8 0xFF8A3B acc)
  | .regBlitCtrlRead => some (encodeReg8 0xFF8A3C .rd)
  | .regBlitCtrlWrite v => some (encodeReg8 0xFF8A3C (.wr v))
  | .regBlitSkew acc => some (encodeReg8 0xFF8A3D acc)
  | .regMfpGpip acc => some (encodeReg8 0xFFFA01 acc)
  | .regMfpAer acc => some (encodeReg8 0xFFFA03 acc)
  | .regMfpDdr acc => some (encodeReg8 0xFFFA05 acc)
  | .regMfpIera acc => some (encodeReg8 0xFFFA07 acc)
  | .regMfpIerb acc => some (encodeReg8 0xFFFA09 acc)
  | .regMfpIpra acc => some (encodeReg8 0xFFFA0B acc)
  | .regMfpIprb acc => some (encodeReg8 0xFFFA0D acc)
  | .regMfpIsra acc => some (encodeReg8 0xFFFA0F acc)
  | .regMfpIsrb acc => some (encodeReg8 0xFFFA11 acc)
  | .regMfpImra acc => some (encodeReg8 0xFFFA13 acc)
  | .regMfpImrb acc => some (encodeReg8 0xFFFA15 acc)
  | .regMfpVr acc => some (encodeReg8 0xFFFA17 acc)
  | .regMfpTacr acc => some (encodeReg8 0xFFFA19 acc)
  | .regMfpTbcr acc => some (encodeReg8 0xFFFA1B acc)
  | .regMfpTcdcr acc => some (encodeReg8 0xFFFA1D acc)
  | .regMfpTadr acc => some (encodeReg8 0xFFFA1F acc)
  | .regMfpTbdr acc => some (encodeReg8 0xFFFA21 acc)
  | .regMfpTcdr acc => some (encodeReg8 0xFFFA23 acc)
  | .regMfpTddr acc => some (encodeReg8 0xFFFA25 acc)
  | .regDmaDataCount acc => some (encodeReg16 0xFF8604 0 acc)
  | .regDmaDataController acc => some (encodeReg16 0xFF8604 4 acc)
  | .regDmaMode w => some (encodeReg16 0xFF8606 0 (.wr w))
  | .regDmaStatus l => some (encodeReg16 0xFF8606 0 (.rd l))
  | .regDmaAddrHi acc => some (encodeReg8 0xFF8609 acc)
  | .regDmaAddrMid acc => some (encodeReg8 0xFF860B acc)
  | .regDmaAddrLo acc => some (encodeReg8 0xFF860D acc)
  | .regVidSync acc => some (encodeReg8 0xFF820A acc)
  | .regVidPaletteRead n l => some (encodeReg16 (0xFF8240 + 2 * n.toNat) 0 (.rd l))
  | .regVidPaletteWrite n w => some (encodeReg16 (0xFF8240 + 2 * n.toNat) 0 (.wr w))
  | .regVidShiftModeRead => some (encodeReg8 0xFF8260 .rd)
  | .regVidShiftModeWrite v => some (encodeReg8 0xFF8260 (.wr v))
  | .regVidHscroll acc => some (encodeReg8 0xFF8265 acc)
  | .regSndSndCtrl acc => some (encodeReg8 0xFF8901 acc)
  | .regSndSndMode acc => some (encodeReg8 0xFF8921 acc)
  | .opZero => some ⟨.blitOp, [0], none⟩
  | .opAnd => some ⟨.blitOp, [1], none⟩
  | .opAndNotd => some ⟨.blitOp, [2], none⟩
  | .opSrc => some ⟨.blitOp, [3], none⟩
  | .opNotsAnd => some ⟨.blitOp, [4], none⟩
  | .opDst => some ⟨.blitOp, [5], none⟩
  | .opXor => some ⟨.blitOp, [6], none⟩
  | .opOr => some ⟨.blitOp, [7], none⟩
  | .opNor => some ⟨.blitOp, [8], none⟩
  | .opXnor => some ⟨.blitOp, [9], none⟩
  | .opNotd => some ⟨.blitOp, [10], none⟩
  | .opOrNotd => some ⟨.blitOp, [11], none⟩
  | .opNots => some ⟨.blitOp, [12], none⟩
  | .opNotsOr => some ⟨.blitOp, [13], none⟩
  | .opNand => some ⟨.blitOp, [14], none⟩
  | .opOne => some ⟨.blitOp, [15], none⟩
  | .hopOnes => some ⟨.blitHop, [0], none⟩
  | .hopHalftone => some ⟨.blitHop, [1], none⟩
  | .hopSource => some ⟨.blitHop, [2], none⟩
  | .hopSrcAndHt => some ⟨.blitHop, [3], none⟩
  | .tmStop t => some ⟨.tmodeAB, [0, timerABCode t], none⟩
  | .tmDiv4 t => some ⟨.tmodeAB, [1, timerABCode t], none⟩
  | .tmDiv10 t => some ⟨.tmodeAB, [2, timerABCode t], none⟩
  | .tmDiv16 t => some ⟨.tmodeAB, [3, timerABCode t], none⟩
  | .tmDiv50 t => some ⟨.tmodeAB, [4, timerABCode t], none⟩
  | .tmDiv64 t => some ⟨.tmodeAB, [5, timerABCode t], none⟩
  | .tmDiv100 t => some ⟨.tmodeAB, [6, timerABCode t], none⟩
  | .tmDiv200 t => some ⟨.tmodeAB, [7, timerABCode t], none⟩
  | .tmEvent t => some ⟨.tmodeAB, [8, timerABCode t], none⟩
  | .tmRsv9 t => some ⟨.tmodeAB, [9, timerABCode t], none⟩
  | .tmRsv10 t => some ⟨.tmodeAB, [10, timerABCode t], none⟩
  | .tmRsv11 t => some ⟨.tmodeAB, [11, timerABCode t], none⟩
  | .tmRsv12 t => some ⟨.tmodeAB, [12, timerABCode t], none⟩
  | .tmRsv13 t => some ⟨.tmodeAB, [13, timerABCode t], none⟩
  | .tmRsv14 t => some ⟨.tmodeAB, [14, timerABCode t], none⟩
  | .tmRsv15 t => some ⟨.tmodeAB, [15, timerABCode t], none⟩
  | .tmStopCd t => some ⟨.tmodeCD, [0, timerCDCode t], none⟩
  | .tmDiv4Cd t => some ⟨.tmodeCD, [1, timerCDCode t], none⟩
  | .tmDiv10Cd t => some ⟨.tmodeCD, [2, timerCDCode t], none⟩
  | .tmDiv16Cd t => some ⟨.tmodeCD, [3, timerCDCode t], none⟩
  | .tmDiv50Cd t => some ⟨.tmodeCD, [4, timerCDCode t], none⟩
  | .tmDiv64Cd t => some ⟨.tmodeCD, [5, timerCDCode t], none⟩
  | .tmDiv100Cd t => some ⟨.tmodeCD, [6, timerCDCode t], none⟩
  | .tmDiv200Cd t => some ⟨.tmodeCD, [7, timerCDCode t], none⟩
  | .dmaRead => some ⟨.dmaMode, [0], none⟩
  | .dmaWrite => some ⟨.dmaMode, [1], none⟩
  | .resLow => some ⟨.shiftMode, [0], none⟩
  | .resMed => some ⟨.shiftMode, [1], none⟩
  | .resHigh => some ⟨.shiftMode, [2], none⟩
  | .resRsv3 => some ⟨.shiftMode, [3], none⟩
  | .freq60 => some ⟨.sync, [0], none⟩
  | .freq50 => some ⟨.sync, [1], none⟩
  | .rate0 => some ⟨.sndRate, [0], none⟩
  | .rate1 => some ⟨.sndRate, [1], none⟩
  | .rate2 => some ⟨.sndRate, [2], none⟩
  | .rate3 => some ⟨.sndRate, [3], none⟩
  | .sndOff => some ⟨.sndCtrl, [0], none⟩
  | .sndOn => some ⟨.sndCtrl, [1], none⟩

end Sys2Proof
end

