-- ==== Sys2Proof/Machine/Inbox.lean ====
section
/-! DEFINITION. Fetching: what the step relation does with the command that waits first (41_bus_arbiter.md
R160, R177, R178): when it may be taken, and how a word of the opcode table is placed as the next command.
Step.lean calls these. -/

namespace Sys2Proof.Machine

/-- When a command may be taken (R160, R177, R178). -/
inductive TakenWhen where
  /-- a CPU command: no internal step is enabled -/
  | cpu
  /-- a command of the environment: FIRE is not enabled -/
  | environment
  /-- between any two steps -/
  | always
deriving DecidableEq, Repr

/-- R160: RUN, RD, WR and IACK are the CPU's; GPIO, INT, TAI, DBIN and DBOUT the environment's; RESET, SNAP
and RESTORE come between any two steps. A register access is a RD or WR (R110 b), so the CPU's. The narrow
calls and the field codes, which no environment issues, are placed between any two steps (entry 8). -/
def takenWhen : Instr → TakenWhen
  | .run _ | .rdB _ | .rdW _ | .wrB _ _ | .wrW _ _ | .iack _ => .cpu
  | .gpio _ _ | .int _ | .tai _ | .dbin _ | .dbout => .environment
  | i =>
    match encode i with
    | some p => if p.format = .reg then .cpu else .always
    | none => .always

/-- The state lets a command of that kind be taken now. -/
def mayTake (s : State) : TakenWhen → Bool
  | .cpu => cpuEnabled s
  | .environment => !fireEnabled s
  | .always => true

/-- The instruction an internal step is (R160). -/
def stepInstr : InternalStep → Instr
  | .fire => .fire
  | .dmaWord => .dmaWord
  | .blitPhase => .blitPhase
  | .grantDma => .grantDma
  | .grantBlit => .grantBlit

/-- A waiting command has let one more internal step pass. -/
def waited (r : Request) : Request := { r with after := r.after - 1 }

/-- What the first waiting command is, where its turn has come: `after` is 0, or no internal step is enabled
and nothing else could happen first (entry 5). -/
def turnCome (s : State) (r : Request) : Bool := r.after == 0 || cpuEnabled s

/-- The commands with the operation whose bits are `w` placed first, to be taken at once (entry 9). -/
def placeWordFirst (s : State) (nbits w : Nat) : List Request :=
  match tablePacket nbits w with
  | some p => ⟨p, 0⟩ :: s.inbox
  | none => s.inbox

end Sys2Proof.Machine
end

