-- ==== Sys2Proof/Machine/Step.lean ====
section
/-! DEFINITION. The step relation of 41_bus_arbiter.md R160 as one function: the first waiting command is
taken when its turn has come and the state lets it; else the internal step the priorities of R160 enable is
taken; else the block waits for its environment and nothing changes (entries 5, 6). -/

namespace Sys2Proof.Machine

/-- The internal step that is enabled, with the commands `q` left waiting; none enabled: the block waits. -/
def internalStep (s : State) (q : List Request) : Host.Outcome State Fault Refusal :=
  match pendingStep s with
  | some k => exec (stepInstr k) (s.withInbox q)
  | none => .next s

/-- One step (R160). -/
def step (s : State) : Host.Outcome State Fault Refusal :=
  match s.inbox with
  | [] => internalStep s []
  | r :: rest =>
    if turnCome s r then
      match decode r.packet with
      | .ok i => if mayTake s (takenWhen i) then exec i (s.withInbox rest) else internalStep s (r :: rest)
      | .error _ => .next (turnAway (s.withInbox rest) .undecodable)
    else internalStep s (waited r :: rest)

/-- The operation whose bits are `w` placed where the next command is fetched. -/
def State.withFetchWord (s : State) (nbits w : Nat) : State := s.withInbox (placeWordFirst s nbits w)

end Sys2Proof.Machine
end

