-- ==== Sys2Proof/Safety.lean ====
section
/-! DEFINITION. What counts as a well-formed state and as a normal outcome, in the terms the statements use:
the invariant `Inv` (the canonical memory, the hardwired and held bits, the ranges of 60_exceptions.md R486 and
44_dma.md R413, the ownership of the bus), the two rules of the interrupt controller that only RESTORE can
break, and the states a completed bus transaction, a report and a schedule call leave. -/

namespace Sys2Proof.Machine

/-! ### The invariant -/

/-- The arbiter: the latches hold `ADDR_BITS` and `DATA_BITS` bits (10_state.md R24, R25), a burst is in progress
exactly while the DMA engine owns the bus, and has at most 8 words left (41_bus_arbiter.md R163, R165;
60_exceptions.md R486). -/
def busOk (s : State) : Bool :=
  onBus s.cfg s.bus.addrLatch == s.bus.addrLatch && onLatch s.cfg s.bus.dataLatch == s.bus.dataLatch &&
  onBus s.cfg s.bus.lastTx.address == s.bus.lastTx.address &&
  onLatch s.cfg s.bus.lastTx.data == s.bus.lastTx.data &&
  decide (s.bus.burstLeft ≤ 8) && ((s.owner == .dma) == decide (0 < s.bus.burstLeft))

/-- The blitter: the hardwired bits are 0 and an address has `ADDR_BITS` bits (10_state.md R30, R31), the phase is
one of the five, and it is not IDLE while the blitter owns the bus (42_blitter.md R222). -/
def blitOk (s : State) : Bool :=
  !s.blit.srcXinc.getLsbD 0 && !s.blit.srcYinc.getLsbD 0 &&
  !s.blit.dstXinc.getLsbD 0 && !s.blit.dstYinc.getLsbD 0 &&
  addrReg s.cfg s.blit.srcAddr == s.blit.srcAddr && addrReg s.cfg s.blit.dstAddr == s.blit.dstAddr &&
  decide (s.blit.phase.toNat ≤ 4) && !(s.owner == .blit && s.blit.phase == phaseIdle)

/-- A timer that runs in a delay mode stores no counter (10_state.md R51, R52; entry 14). -/
def timerOk (t : Timer) : Bool :=
  match timerClass t.ctrl with
  | .delay _ => t.cnt == 0 && t.res == 0
  | _ => true

/-- The MFP: VR bits 2:0 are 0 (10_state.md R48), timers C and D have 3-bit modes (R49), and the counters of a
running timer are not stored. -/
def mfpOk (m : Mfp) : Bool :=
  m.vr &&& 7 == 0 && !m.tc.ctrl.getLsbD 3 && !m.td.ctrl.getLsbD 3 &&
  timerOk m.ta && timerOk m.tb && timerOk m.tc && timerOk m.td

/-- The DMA engine: "FIFO index never exceeds 16" (44_dma.md R413), one of two buffers is active, whole bursts
are counted below 512 (R412), and the address has `ADDR_BITS` bits with bit 0 at 0 (10_state.md R61). -/
def dmaOk (c : Config) (d : Dma) : Bool :=
  decide (d.idx ≤ 16) && decide (d.active ≤ 1) && decide (d.byteCnt % 16 = 0) && decide (d.byteCnt < 512) &&
  addrReg c d.addr == d.addr

/-- The most scanlines a mode of the configuration has. -/
def maxLines (c : Config) : Nat := max c.vtPal50.lines (max c.vtNtsc60.lines c.vtMono71.lines)

/-- The video unit: palette bits outside `PAL_MASK` are 0 (45_video.md R443), the latched bounds keep the
constraints of R431, and the line is one some mode has. -/
def vidOk (c : Config) (v : Vid) : Bool :=
  v.palette.toList.all (fun w => w &&& ~~~c.palMask == 0) && boundsOk v.bounds && decide (v.line < maxLines c)

/-- The sound FIFO holds at most 4 words (10_state.md R70, 45_video.md R454). -/
def sndOk (x : Snd) : Bool := decide (x.fifo.length ≤ 4)

/-- Every slot is one-shot (10_state.md R23). -/
def slotsOk (t : Slots) : Bool := slotIds.all (fun id => (slotGet t id).oneShot)

/-- The invariant of the machine, under a well-formed configuration. -/
abbrev Inv (s : State) : Prop :=
  s.cfg.wf = true ∧ s.mem.wf = true ∧ slotsOk s.sched.slots = true ∧ busOk s = true ∧ blitOk s = true ∧
  mfpOk s.mfp = true ∧ dmaOk s.cfg s.dma = true ∧ vidOk s.cfg s.vid = true ∧ sndOk s.snd = true

/-- A pending source is an enabled one (43_mfp.md R310, R314). -/
abbrev PendingEnabled (m : Mfp) : Prop := m.ipr &&& ~~~m.ier = 0

/-- With VR.S = 0 no source is in service (43_mfp.md R319, R340). -/
abbrev InServiceNeedsS (m : Mfp) : Prop := vrS m = false → m.isr = 0

/-! ### What a normal outcome leaves -/

/-- Every byte of RAM reads in `t` what it reads in `s`. -/
def SameRam (s t : State) : Prop := ∀ a : Nat, ramByte t a = ramByte s a

/-- Every byte of RAM but the `n` from `a` on reads in `t` what it reads in `s`. -/
def SameRamOutside (s t : State) (a n : Nat) : Prop :=
  ∀ x : Nat, x < a ∨ a + n ≤ x → ramByte t x = ramByte s x

/-- `t` with a report added to those `t` has given. -/
def reporting (t : State) (r : Report) : State :=
  { t with out := { t.out with reports := t.out.reports ++ [r] } }

/-- `t` with a trace record of the time `t` shows. -/
def tracing (t : State) (e : TraceRec) : State :=
  { t with out := { t.out with trace := t.out.trace ++ [(t.sched.now, e)] } }

/-- `t` with a record added to `video_sink`, beside it the `ptr` of `t` (45_video.md R440, R462). -/
def sinking (t : State) (e : VideoRec) : State :=
  { t with out := { t.out with video := t.out.video ++ [(scanPtr t, e)] } }

/-- `t` with an access handed to a device outside the block (20_memory.md R86, R87; entry 13). -/
def handed (t : State) (e : DeviceRec) : State :=
  { t with out := { t.out with devices := t.out.devices ++ [e] } }

/-- `t` with the first answer of the queue of `EXT` devices used up, or one more free value drawn when no answer is
fixed (20_memory.md R86; entry 11). -/
def tookExt (t : State) : State :=
  { t with env := { t.env with
      ext := t.env.ext.tail, draws := t.env.draws + (if t.env.ext = [] then 1 else 0) } }

/-- The same for the answers of the external disk controller (44_dma.md R385; entry 11). -/
def tookCtrl (t : State) : State :=
  { t with env := { t.env with
      ctrl := t.env.ctrl.tail, draws := t.env.draws + (if t.env.ctrl = [] then 1 else 0) } }

/-- `t` after the ticks, latches and record of one transaction without bus error (41_bus_arbiter.md R169 to
R171): `cpu_idle` grows too unless the CPU's. -/
def transacted (t : State) (u : Master) (a : Addr) (v : Word) (w : Width) (d : Dir) (ticks : Nat) : State :=
  { t with
    sched := { t.sched with now := t.sched.now + ticks }
    bus := { t.bus with
      addrLatch := a, dataLatch := v, lastTx := ⟨a, v, w, d, u⟩
      cpuIdle := t.bus.cpuIdle + (if u = .cpu then 0 else ticks) } }

/-- A CPU read at a bank's offset, whose result is `v`: the bank's bus address and the ticks of an access to it
(20_memory.md R81, 41_bus_arbiter.md R169, R170). -/
def cpuRead (s : State) (b : Bank) (o : Nat) (w : Width) (v : Word) : State :=
  reporting (transacted s .cpu (bankAddr s.cfg b o) (onLatch s.cfg v) w .read (s.cfg.tBus + bankJam s.cfg b))
    (.data w v)

/-- `t` after the transaction of a CPU write of `v` at a bank's offset; `t` holds the register's new value. -/
def cpuWrote (t : State) (b : Bank) (o : Nat) (w : Width) (v : Word) : State :=
  transacted t .cpu (bankAddr t.cfg b o) (onLatch t.cfg v) w .write (t.cfg.tBus + bankJam t.cfg b)

/-- The bytes of a bank that belong to a register, by the table of 30_encoding.md R114. -/
def registerByte : Bank → Nat → Bool
  | .blit, o => decide (o < 0x3E)
  | .mfp, o => decide (o % 2 = 1) && decide (o ≤ 0x25)
  | .dma, o => [4, 5, 6, 7, 9, 0x0B, 0x0D].contains o
  | .vid, o => o == 0x0A || (decide (0x40 ≤ o) && decide (o ≤ 0x60)) || o == 0x65
  | .snd, o => o == 1 || o == 0x21

/-- A CPU read of the one-byte register at offset `o`, whose read value is `v`. -/
def read8 (s : State) (b : Bank) (o : Nat) (v : Byte) : State := cpuRead s b o .byte (byteToWord v)

/-- A CPU read of a lane of the two-byte register at offset `o`, whose read value is `v` (20_memory.md R86). -/
def read16 (s : State) (b : Bank) (o : Nat) (v : Word) : Lane → State
  | .hi => cpuRead s b o .byte (byteToWord (hiByte v))
  | .lo => cpuRead s b (o + 1) .byte (byteToWord (loByte v))
  | .both => cpuRead s b o .word v

/-- A CPU write of the one-byte register at offset `o`; `t` holds its new value. -/
def wrote8 (t : State) (b : Bank) (o : Nat) (v : Byte) : State := cpuWrote t b o .byte (byteToWord v)

/-- A CPU write of a lane of the two-byte register at offset `o`; `t` holds its new value. -/
def wrote16 (t : State) (b : Bank) (o : Nat) : Wr16 → State
  | .hi v => cpuWrote t b o .byte (byteToWord v)
  | .lo v => cpuWrote t b (o + 1) .byte (byteToWord v)
  | .both v => cpuWrote t b o .word v

/-- The full value a write forms: written bytes over the current read value (20_memory.md R89). -/
def merged (old : Word) : Wr16 → Word
  | .hi v => mkWord v (loByte old)
  | .lo v => mkWord (hiByte old) v
  | .both v => v

/-- `t` with a slot scheduled: due time, a fresh `seq`, one-shot (40_scheduler.md R143). -/
def scheduled (t : State) (id : SlotId) (due : Option Nat) : State :=
  { t with sched := { t.sched with
      slots := slotPut t.sched.slots id ⟨due, t.sched.seqNext, true⟩
      seqNext := t.sched.seqNext + 1 } }

/-- `t` at the start, at time `t0`, of a scanline of a mode: its bounds are latched and its events armed
(45_video.md R439). -/
def lineArmed (t : State) (m : VideoTiming) (line t0 : Nat) : State :=
  let pic := decide (m.picFirst ≤ line ∧ line ≤ m.picLast)
  let t1 := scheduled { t with vid := { t.vid with
      line := line, lineStart := t0, bounds := ⟨m.lineLen, m.winStart, m.winEnd, m.hbStart, pic⟩ } }
    .vidLine (some (t0 + m.lineLen))
  scheduled
    (if pic then scheduled (scheduled t1 .vidDeOn (some (t0 + m.winStart))) .vidDeOff (some (t0 + m.winEnd)) else t1)
    .vidHb (some (t0 + m.hbStart))

/-- `t` after an occurrence of a source (43_mfp.md R310): lost when disabled, traced when pending already, else
its pending bit set. -/
def occurred (t : State) (src : BitVec 4) : State :=
  if t.mfp.ier.getLsbD src.toNat = false then t
  else if t.mfp.ipr.getLsbD src.toNat then tracing t (.pendingAgain src)
  else { t with mfp := { t.mfp with ipr := t.mfp.ipr ||| ((1 : Word) <<< src.toNat) } }

/-- `t` after line `i` went to level `v`, or stayed there (43_mfp.md R305, R307). -/
def lineMoved (t : State) (i : BitVec 3) (v : Bool) : State :=
  let t1 := { t with mfp := { t.mfp with ext := putBit t.mfp.ext i.toNat v } }
  if t.mfp.ext.getLsbD i.toNat ≠ v ∧ t.mfp.ddr.getLsbD i.toNat = false ∧ t.mfp.aer.getLsbD i.toNat = v
  then occurred t1 (lineSource i) else t1

/-- The bank of a master's own registers, whose use by that master is unspecified (20_memory.md R96, 93 U9). -/
def ownBank : Master → Option Bank
  | .cpu => none
  | .blit => some .blit
  | .dma => some .dma

/-- `t` is what a word read by the blitter or the DMA engine leaves of `s`, and `w` the word it yields: of RAM, of
another unit's register bank, of an `EXT` device, or, where no device answers, the old `data_latch`
(20_memory.md R86, R96; 41_bus_arbiter.md R170, R175). Left out is the unit's own bank (93 U9). -/
def Fetched (s : State) (u : Master) (a : Addr) (w : Word) (t : State) : Prop :=
  let bus := onBus s.cfg a
  let p := remapAddr s.cfg bus
  let read (t0 : State) (ticks : Nat) : State := transacted t0 u bus (onLatch s.cfg w) .word .read ticks
  (regionOf s.cfg p = .ram ∧ w = mkWord (ramByte s p.toNat) (ramByte s (p.toNat + 1)) ∧ t = read s s.cfg.tBus) ∨
  (∃ b o, regionOf s.cfg p = .bank b o ∧ ownBank u ≠ some b ∧ w = (regReadWord s b o).1 ∧
    t = read (regReadWord s b o).2 s.cfg.tBus) ∨
  (regionOf s.cfg p = .ext ∧ w = s.env.ext.headD (Config.extValue s.env.draws) ∧
    t = read (handed (tookExt s) (.extRead p .word)) s.cfg.tBus) ∨
  (regionOf s.cfg p = .none ∧ w = s.bus.dataLatch ∧
    t = reporting (transacted s u bus w .word .read s.cfg.tBerr) (.busError u bus .read s.cfg.busErrorVector))

/-- `t` is what a word write of `v` by the blitter or the DMA engine leaves of `s`: to RAM, to another unit's
register bank, to an `EXT` device, or, where no device answers, with nothing written (20_memory.md R87, R96;
41_bus_arbiter.md R171, R175). Left out is the unit's own bank (93 U9). -/
def Stored (s : State) (u : Master) (a : Addr) (v : Word) (t : State) : Prop :=
  let bus := onBus s.cfg a
  let p := remapAddr s.cfg bus
  let wrote (t0 : State) (ticks : Nat) : State := transacted t0 u bus (onLatch s.cfg v) .word .write ticks
  (regionOf s.cfg p = .ram ∧
    t = wrote { s with mem := (s.mem.put p.toNat (hiByte v)).put (p.toNat + 1) (loByte v) } s.cfg.tBus) ∨
  (∃ b o, regionOf s.cfg p = .bank b o ∧ ownBank u ≠ some b ∧ t = wrote (regWriteWord s b o v) s.cfg.tBus) ∨
  (regionOf s.cfg p = .ext ∧ t = wrote (handed s (.extWrite p .word v)) s.cfg.tBus) ∨
  (regionOf s.cfg p = .none ∧
    t = reporting (wrote s s.cfg.tBerr) (.busError u bus .write s.cfg.busErrorVector))

end Sys2Proof.Machine
end

