-- ==== Sys2Proof/Certificates/Slice0/Obligations.lean ====
section
/-! DEFINITION. The statements of this model, one `Prop` each, in the order of OBLIGATIONS.json: the step and
the encoding, the commands of the CPU, the environment and the host, the narrow calls, the internal steps, the
register accesses, the field codes, and the rules that hold of every instruction. A next state is written as a
record: a field that is not named is unchanged. -/

open Sys2Proof Sys2Proof.Machine

/-! ### The step and the encoding -/

/-- A step takes the first waiting command when its turn has come and the step relation lets it, and runs the
instruction the command decodes to, the rest of the queue left waiting (R160; the queue is the model's, entry 5). -/
def Obligations.StepRunsTheDecodedCommand : Prop :=
  ∀ (s : State) (r : Request) (rest : List Request) (i : Instr),
    s.inbox = r :: rest → decode r.packet = .ok i → turnCome s r = true → mayTake s (takenWhen i) = true →
    step s = exec i (s.withInbox rest)

/-- What a step does where it takes no command (R160, R129): the enabled internal step runs; bytes that are no
operation are turned away; with nothing enabled and nothing waiting the state stays (entries 5, 6, 7). -/
def Obligations.StepWithoutACommand : Prop :=
  ∀ (s : State) (k : InternalStep) (r : Request) (rest : List Request) (i : Instr) (e : DecodeError),
    (s.inbox = [] → pendingStep s = some k → step s = exec (stepInstr k) s) ∧
    (s.inbox = [] → pendingStep s = none → step s = .next s) ∧
    (s.inbox = r :: rest → turnCome s r = false → pendingStep s = some k →
      step s = exec (stepInstr k) (s.withInbox (waited r :: rest))) ∧
    (s.inbox = r :: rest → turnCome s r = true → decode r.packet = .ok i → mayTake s (takenWhen i) = false →
      pendingStep s = some k → step s = exec (stepInstr k) s) ∧
    (s.inbox = r :: rest → turnCome s r = true → decode r.packet = .error e →
      step s = .next (reporting { s with inbox := rest } (.turned .undecodable)))

/-- The word of a table row, placed where the next command is fetched, is what the next step runs. -/
def Obligations.PlacedWordRuns : Prop :=
  ∀ (s : State) (nbits w : Nat) (i : Instr),
    decodeTableWord nbits w = some i → mayTake s (takenWhen i) = true →
    step (s.withFetchWord nbits w) = exec i s

/-- The priorities of the step relation, one clause per row of the table of R160. -/
def Obligations.StepPriorities : Prop :=
  ∀ s : State,
    (pendingStep s = some .fire ↔ ∃ id d, (s.slot id).due = some d ∧ d ≤ s.sched.now) ∧
    (pendingStep s = some .dmaWord ↔ fireEnabled s = false ∧ s.owner = .dma) ∧
    (pendingStep s = some .blitPhase ↔ fireEnabled s = false ∧ s.owner = .blit) ∧
    (pendingStep s = some .grantDma ↔ fireEnabled s = false ∧ s.owner = .cpu ∧ dmaWantsBus s = true) ∧
    (pendingStep s = some .grantBlit ↔
      fireEnabled s = false ∧ s.owner = .cpu ∧ dmaWantsBus s = false ∧ s.blit.request = true) ∧
    (cpuEnabled s = true ↔
      fireEnabled s = false ∧ s.owner = .cpu ∧ dmaWantsBus s = false ∧ s.blit.request = false)

/-- Decoding what the encoder writes gives the instruction back, for every instruction that has an encoding,
with every operand the encoding admits (R111, R112, R113, R120 to R127, R130). The layouts of CALL and REG packets
and of the field codes' bytes are the model's (entry 8). -/
def Obligations.DecodeAfterEncode : Prop :=
  ∀ (i : Instr) (p : Packet), i.wf = true → encode i = some p → decode p = .ok i

/-- Every packet that decodes is the encoding of what it decodes to: no two packets mean one instruction, and
none means an internal step (R110). That no bit of a packet is dropped is the model's choice: it lays the packets
out (entry 8) and refuses spare operand bits (entry 30). -/
def Obligations.EncodeAfterDecode : Prop :=
  ∀ (p : Packet) (i : Instr), decode p = .ok i → encode i = some p

/-- A few words: the codes, the addresses and the operands of commands are written out from the tables of R111,
R112, R114, R120, R122, R127 and R130; the operand bytes of SET_GPIO_BIT, the kind and value bytes of the register
access and the timer byte of TM_DIV10 from the model's own layouts (entry 8). -/
def Obligations.WordsDecodeRight : Prop :=
  decode ⟨.cmd, [0x00, 0x00, 0x00, 0x00, 0x32], none⟩ = .ok (.run 50) ∧
  decode ⟨.cmd, [0x04, 0xFF, 0x8A, 0x06, 0x55, 0x55], none⟩ = .ok (.wrW 0xFF8A06 0x5555) ∧
  decode ⟨.cmd, [0x05, 0x06], none⟩ = .ok (.iack 6) ∧
  decode ⟨.call, [0x14, 0x03, 0x00], none⟩ = .ok (.setGpioBit 3 false) ∧
  decode ⟨.reg, [0xFF, 0xFA, 0x17, 0x02, 0x00, 0x48], none⟩ = .ok (.regMfpVr (.wr 0x48)) ∧
  decode ⟨.blitOp, [0x06], none⟩ = .ok .opXor ∧
  decode ⟨.tmodeAB, [0x02, 0x00], none⟩ = .ok (.tmDiv10 .a) ∧
  decode ⟨.sndRate, [0x03], none⟩ = .ok .rate3

/-- A code no row of R111 or R112 has is refused by name (R129). So is a register access of the model's own REG
packets (entry 8) whose address no row of R114 matches: that refusal is the decoder's choice, for R129 says of an
unlisted offset that it reads 0xFF and ignores writes, which is what the commands RD and WR do there
(`BankAccessesByOffset`). -/
def Obligations.UnlistedEncodingsRefused : Prop :=
  (∀ (code : Byte) (ops : List Byte), 0x0E < code.toNat →
    decode ⟨.cmd, code :: ops, none⟩ = .error .unknownCode) ∧
  (∀ (code : Byte) (ops : List Byte), code.toNat < 0x10 ∨ 0x15 < code.toNat →
    decode ⟨.call, code :: ops, none⟩ = .error .unknownCode) ∧
  (∀ h m l v1 v0 kind : Byte, kind.toNat < 4 →
    (∀ (b : Bank) (o : Nat), o < bankSize b → regAt b o ≠ none →
      mkAddr h m l ≠ addrAt (bankBase Config.default b) o) →
    decode ⟨.reg, [h, m, l, kind, v1, v0], none⟩ = .error .noRegister)

/-- A row of format REG is the RD or WR command whose address falls on its register (R110 b, R113), at the
default bank addresses without remapping, on a bus that has their 24 bits. The access kinds of the packet are the
model's (entry 8), and that executing a row is the whole transaction (entry 20). An access that no row matches is
said in `BankAccessesByOffset`. -/
def Obligations.RegisterRowsAreBusAccesses : Prop :=
  ∀ (s : State) (h m l v1 v0 : Byte) (i : Instr),
    s.cfg.remap = [] → 24 ≤ s.cfg.addrBits → (∀ b : Bank, bankBase s.cfg b = bankBase Config.default b) →
    (decode ⟨.reg, [h, m, l, 0, 0, 0], none⟩ = .ok i → exec (.rdB (mkAddr h m l)) s = exec i s) ∧
    (decode ⟨.reg, [h, m, l, 1, 0, 0], none⟩ = .ok i → exec (.rdW (mkAddr h m l)) s = exec i s) ∧
    (decode ⟨.reg, [h, m, l, 2, 0, v0], none⟩ = .ok i → exec (.wrB (mkAddr h m l) v0) s = exec i s) ∧
    (decode ⟨.reg, [h, m, l, 3, v1, v0], none⟩ = .ok i →
      exec (.wrW (mkAddr h m l) (mkWord v1 v0)) s = exec i s)

/-! ### Commands that are turned away -/

/-- While an internal step is enabled the CPU is stalled: each of its commands, a register access among them,
has no effect but the report that it was not taken (R177). So do the refusals the spec names (R85, R142, R340,
R306, R309, R396, R400, R501) and a call at a time the step relation does not allow (R160, R178). The report is the
model's (entry 7). -/
def Obligations.CommandsTurnedAwayHaveNoEffect : Prop :=
  (∀ (s : State) (i : Instr), cpuEnabled s = false → takenWhen i = .cpu →
    exec i s = .next (reporting s (.turned .notEnabled))) ∧
  (∀ s : State,
    (cpuEnabled s = true →
      exec (.run 0) s = .next (reporting s (.turned .runZero)) ∧
      (∀ a : Addr, a.toNat % 2 = 1 → exec (.rdW a) s = .next (reporting s (.turned .oddAddress))) ∧
      (∀ (a : Addr) (v : Word), a.toNat % 2 = 1 →
        exec (.wrW a v) s = .next (reporting s (.turned .oddAddress))) ∧
      (∀ l, l ≠ s.cfg.mfpIpl → exec (.iack l) s = .next (reporting s (.turned .wrongLevel)))) ∧
    (fireEnabled s = false →
      (∀ v, exec (.gpio s.cfg.blitGpio v) s = .next (reporting s (.turned .drivenInside))) ∧
      (∀ v, exec (.gpio s.cfg.dmaGpio v) s = .next (reporting s (.turned .drivenInside))) ∧
      (∀ src, src.toNat < 9 ∨ 12 < src.toNat →
        exec (.int src) s = .next (reporting s (.turned .notInternalLine))) ∧
      (∀ b, s.dma.mode.getLsbD 8 = true → exec (.dbin b) s = .next (reporting s (.turned .wrongDirection))) ∧
      (s.dma.mode.getLsbD 8 = false → exec .dbout s = .next (reporting s (.turned .wrongDirection)))) ∧
    (∀ i, fireEnabled s = true → takenWhen i = .environment →
      exec i s = .next (reporting s (.turned .notEnabled))) ∧
    (∀ k, pendingStep s ≠ some k → exec (stepInstr k) s = .next (reporting s (.turned .notEnabled))) ∧
    (exec (.restore none) s = .next (reporting s (.turned .dumpShape))) ∧
    (∀ d : Dump, d.cfg ≠ s.cfg → exec (.restore (some d)) s = .next (reporting s (.turned .dumpShape))))

/-! ### Commands of the CPU -/

/-- RUN n adds n to `now` and changes nothing else (R142). -/
def Obligations.RunAddsItsTicks : Prop :=
  ∀ (s : State) (n : Nat), cpuEnabled s = true → 0 < n →
    exec (.run n) s = .next { s with sched := { s.sched with now := s.sched.now + n } }

/-- RD.B and RD.W of RAM give the byte, or the big-endian word, and take `T_BUS` ticks; nothing but the latches
and the clock changes (R84, R86, R169, R170, R172). The bus carries `ADDR_BITS` and the latch `DATA_BITS` bits. -/
def Obligations.ReadOfRam : Prop :=
  ∀ (s : State) (a : Addr), cpuEnabled s = true → regionOf s.cfg (remapAddr s.cfg (onBus s.cfg a)) = .ram →
    let p := (remapAddr s.cfg (onBus s.cfg a)).toNat
    let read (v : Word) (w : Width) : State :=
      reporting (transacted s .cpu (onBus s.cfg a) (onLatch s.cfg v) w .read s.cfg.tBus) (.data w v)
    exec (.rdB a) s = .next (read (byteToWord (ramByte s p)) .byte) ∧
    (a.toNat % 2 = 0 → exec (.rdW a) s = .next (read (mkWord (ramByte s p) (ramByte s (p + 1))) .word))

/-- WR.B and WR.W of RAM store the byte, or the word with its high byte at the lower address; every other byte
of RAM and everything but the latches and the clock stays (R84, R87, R169, R171, R173). -/
def Obligations.WriteOfRam : Prop :=
  ∀ (s : State) (a : Addr), cpuEnabled s = true → regionOf s.cfg (remapAddr s.cfg (onBus s.cfg a)) = .ram →
    let p := (remapAddr s.cfg (onBus s.cfg a)).toNat
    let wrote (v : Word) (w : Width) : State :=
      transacted s .cpu (onBus s.cfg a) (onLatch s.cfg v) w .write s.cfg.tBus
    (∀ v : Byte, ∃ t, exec (.wrB a v) s = .next t ∧
      ramByte t p = v ∧ SameRamOutside s t p 1 ∧ { t with mem := s.mem } = wrote (byteToWord v) .byte) ∧
    (∀ v : Word, a.toNat % 2 = 0 → ∃ t, exec (.wrW a v) s = .next t ∧
      ramByte t p = hiByte v ∧ ramByte t (p + 1) = loByte v ∧ SameRamOutside s t p 2 ∧
      { t with mem := s.mem } = wrote v .word)

/-- An access of the CPU to an address with no backing device takes the bus error: `T_BERR` ticks, the report
with `BUS_ERROR_VECTOR`, the latches of R170 and R171, and nothing read or written (R175, R481). -/
def Obligations.CpuBusErrorIsTaken : Prop :=
  ∀ (s : State) (a : Addr), cpuEnabled s = true → regionOf s.cfg (remapAddr s.cfg (onBus s.cfg a)) = .none →
    let bus := onBus s.cfg a
    let err (v : Word) (w : Width) (d : Dir) : State :=
      reporting (transacted s .cpu bus v w d s.cfg.tBerr) (.busError .cpu bus d s.cfg.busErrorVector)
    exec (.rdB a) s = .next (err s.bus.dataLatch .byte .read) ∧
    (∀ v : Byte, exec (.wrB a v) s = .next (err (onLatch s.cfg (byteToWord v)) .byte .write)) ∧
    (a.toNat % 2 = 0 → exec (.rdW a) s = .next (err s.bus.dataLatch .word .read)) ∧
    (∀ v : Word, a.toNat % 2 = 0 → exec (.wrW a v) s = .next (err (onLatch s.cfg v) .word .write))

/-- A device of `EXT_REGIONS` answers a read with the next word the environment has fixed, or with some word `v`
where it has fixed none, and is handed a write (R86, R87; the queue of answers and the record of accesses are the
model's, entries 11 and 13). -/
def Obligations.DeviceAccesses : Prop :=
  ∀ (s : State) (a : Addr), cpuEnabled s = true → regionOf s.cfg (remapAddr s.cfg (onBus s.cfg a)) = .ext →
    let bus := onBus s.cfg a
    let p := remapAddr s.cfg bus
    let wrote (v : Word) (w : Width) : State :=
      transacted (handed s (.extWrite p w v)) .cpu bus (onLatch s.cfg v) w .write s.cfg.tBus
    (∃ v : Word, (∀ x, s.env.ext.head? = some x → v = x) ∧
      let read (v : Word) (w : Width) : State := reporting
        (transacted (handed (tookExt s) (.extRead p w)) .cpu bus (onLatch s.cfg v) w .read s.cfg.tBus) (.data w v)
      exec (.rdB a) s = .next (read (byteToWord (loByte v)) .byte) ∧
      (a.toNat % 2 = 0 → exec (.rdW a) s = .next (read v .word))) ∧
    (∀ v : Byte, exec (.wrB a v) s = .next (wrote (byteToWord v) .byte)) ∧
    (∀ v : Word, a.toNat % 2 = 0 → exec (.wrW a v) s = .next (wrote v .word))

/-- IACK at the level of the controller takes the greatest eligible source: its pending bit is cleared, its
in-service bit set when VR.S = 1, the vector is `VR[7:4] ++ s`, and nothing else changes but the trace; with no
eligible source it answers `Spurious` and changes no state of the block (R340, R488). -/
def Obligations.IackDispatchesOrIsSpurious : Prop :=
  (∀ (s : State) (src : BitVec 4), cpuEnabled s = true → eligible s.cfg s.mfp src = true →
    (∀ x : BitVec 4, src.toNat < x.toNat → eligible s.cfg s.mfp x = false) →
    let v : Byte := s.mfp.vr.extractLsb' 4 4 ++ src
    let bit : Word := 1 <<< src.toNat
    exec (.iack s.cfg.mfpIpl) s = .next (reporting (tracing
      { s with mfp := { s.mfp with
          ipr := s.mfp.ipr &&& ~~~bit
          isr := if s.mfp.vr.getLsbD 3 then s.mfp.isr ||| bit else s.mfp.isr } }
      (.dispatch src v)) (.vectored v s.cfg.mfpIpl))) ∧
  (∀ s : State, cpuEnabled s = true → irqOut s = false →
    exec (.iack s.cfg.mfpIpl) s = .next (reporting (tracing s .dispatchSpurious)
      (.spurious s.cfg.spuriousVector s.cfg.mfpIpl)))

/-- Three signals are functions of the state: the interrupt output of pending, mask and in-service bits (R338),
the DMA engine's wish for the bus (R403), the position pointer of the scanline (R440), at some position where the
line starts later than `now` (entry 38). -/
def Obligations.SignalsOfTheState : Prop :=
  (∀ s : State, irqOut s = true ↔ ∃ n : Nat, n < 16 ∧
    s.mfp.ipr.getLsbD n = true ∧ s.mfp.imr.getLsbD n = true ∧
    ¬ (s.mfp.isr.getLsbD n = true ∨
       (s.cfg.isrBlocksLower = true ∧ ∃ m : Nat, n < m ∧ m < 16 ∧ s.mfp.isr.getLsbD m = true))) ∧
  (∀ s : State, dmaWantsBus s = true ↔
    s.dma.sectorCount ≠ 0 ∧
    ((s.dma.mode.getLsbD 8 = false ∧ s.dma.otherFull = true) ∨
     (s.dma.mode.getLsbD 8 = true ∧ s.dma.otherFull = false))) ∧
  (∀ s : State, ∃ x : Nat, (s.vid.lineStart ≤ s.sched.now → x = s.sched.now - s.vid.lineStart) ∧
    let b := s.vid.bounds
    (b.pic = false ∨ x < b.winStart → scanPtr s = 0) ∧
    (b.pic = true → b.winStart ≤ x → x < b.winEnd → scanPtr s = 2 * ((x - b.winStart) / 4)) ∧
    (b.pic = true → b.winStart ≤ x → b.winEnd ≤ x → scanPtr s = (b.winEnd - b.winStart) / 2))

/-! ### Commands of the environment -/

/-- GPIO on an external line, and the narrow call SET_GPIO_BIT on any line, set the level; a change to the edge
AER selects, on a line DDR makes an input, is an occurrence of the line's source (R305, R306, R307). INT of one of
the four chip-internal lines is an occurrence of that source (R309, R310). That SET_GPIO_BIT can be executed by
itself, in every state, is the model's choice (entry 35). -/
def Obligations.LinesAndInternalLines : Prop :=
  (∀ (s : State) (i : BitVec 3) (v : Bool),
    exec (.setGpioBit i v) s = .next (lineMoved s i v) ∧
    (fireEnabled s = false → i ≠ s.cfg.blitGpio → i ≠ s.cfg.dmaGpio →
      exec (.gpio i v) s = .next (lineMoved s i v))) ∧
  (∀ (s : State) (src : BitVec 4), fireEnabled s = false → 9 ≤ src.toNat → src.toNat ≤ 12 →
    exec (.int src) s = .next (occurred s src))

/-- TAI keeps the level of timer A's event input; on the edge AER[4] selects, in event-count mode, the counter
goes down by one, and at 0 source 13 occurs and the counter is reloaded (R335, R336). -/
def Obligations.TimerAInputCounts : Prop :=
  ∀ (s : State) (v : Bool), fireEnabled s = false →
    let s1 := { s with mfp := { s.mfp with tai := v } }
    let c := s.mfp.ta.cnt - 1
    (s.mfp.tai ≠ v → v = s.mfp.aer.getLsbD 4 → s.mfp.ta.ctrl = 8 → c ≠ 0 →
      exec (.tai v) s = .next { s1 with mfp := { s1.mfp with ta := { s1.mfp.ta with cnt := c } } }) ∧
    (s.mfp.tai ≠ v → v = s.mfp.aer.getLsbD 4 → s.mfp.ta.ctrl = 8 → c = 0 →
      let s2 := occurred s1 13
      exec (.tai v) s = .next { s2 with mfp := { s2.mfp with ta := { s2.mfp.ta with cnt := s2.mfp.ta.data } } }) ∧
    (s.mfp.tai = v ∨ v ≠ s.mfp.aer.getLsbD 4 ∨ s.mfp.ta.ctrl ≠ 8 → exec (.tai v) s = .next s1)

/-- DBIN in the disk-to-memory direction: ignored with no sectors left, an overrun sets ERR alone, else the byte
goes to `buf[active][idx]`; the 16th byte swaps the buffers if the other one is free (R396, R397, R398). DBOUT in
the memory-to-disk direction: an underrun sets ERR and returns nothing, else `buf[active][15 - idx]` is returned;
the 16th byte swaps the buffers if the other one is full (R400, R401, R398). -/
def Obligations.DiskBytes : Prop :=
  (∀ (s : State) (b : Byte), fireEnabled s = false → s.dma.mode.getLsbD 8 = false →
    let d := s.dma
    let put (x : Vector Byte 16) : Vector Byte 16 := x.setIfInBounds d.idx b
    let d1 : Dma := { d with
      buf0 := if d.active = 0 then put d.buf0 else d.buf0
      buf1 := if d.active = 0 then d.buf1 else put d.buf1 }
    (d.sectorCount = 0 → exec (.dbin b) s = .next s) ∧
    (d.sectorCount ≠ 0 → d.idx = 16 → exec (.dbin b) s = .next { s with dma := { d with err := true } }) ∧
    (d.sectorCount ≠ 0 → d.idx < 15 ∨ (d.idx = 15 ∧ d.otherFull = true) →
      exec (.dbin b) s = .next { s with dma := { d1 with idx := d.idx + 1 } }) ∧
    (d.sectorCount ≠ 0 → d.idx = 15 → d.otherFull = false →
      exec (.dbin b) s = .next { s with dma := { d1 with
        active := 1 - d.active, idx := 0, otherFull := true } })) ∧
  (∀ s : State, fireEnabled s = false → s.dma.mode.getLsbD 8 = true →
    let d := s.dma
    let b : Byte := bufGet (if d.active = 0 then d.buf0 else d.buf1) (15 - d.idx)
    (d.idx = 16 → exec .dbout s = .next (reporting { s with dma := { d with err := true } } (.diskByte none))) ∧
    (d.idx < 15 ∨ (d.idx = 15 ∧ d.otherFull = false) →
      exec .dbout s = .next (reporting { s with dma := { d with idx := d.idx + 1 } } (.diskByte (some b)))) ∧
    (d.idx = 15 → d.otherFull = true →
      exec .dbout s = .next (reporting { s with dma := { d with
        active := 1 - d.active, idx := 0, otherFull := false } } (.diskByte (some b)))))

/-! ### Reset, snapshot, restore -/

/-- RESET.C starts the counters anew and RAM from new power-on contents; RESET.W keeps `now`, `seq_next` and RAM.
After both every unit is at its reset value, the lines `EXT_RESET` gives stand at its levels and the driven ones at
0, and the first scanline of NTSC_60 is armed from `now` (R520, R521, R522, R523). Under the default configuration
RESET.C leaves the reset state. The environment's answers, the output streams, the waiting commands and the count of
cold resets are the model's own (entries 10, 11, 12, 29). -/
def Obligations.StateAfterReset : Prop :=
  ∀ s : State,
    (∃ lines : Byte,
      (∀ i : BitVec 3, lines.getLsbD i.toNat =
        (s.cfg.extReset.getLsbD i.toNat && decide (i ≠ s.cfg.blitGpio ∧ i ≠ s.cfg.dmaGpio))) ∧
      let units (now seq : Nat) : State := { State.reset with
        cfg := s.cfg, sched := ⟨now, seq, Slots.reset⟩, vid := Vid.blank
        mfp := { State.reset.mfp with ext := lines }, out := s.out, inbox := s.inbox }
      exec .resetC s = .next (lineArmed
        { units 0 0 with env := { s.env with coldResets := s.env.coldResets + 1 } } s.cfg.vtNtsc60 0 0) ∧
      exec .resetW s = .next (lineArmed
        { units s.sched.now s.sched.seqNext with mem := s.mem, env := s.env } s.cfg.vtNtsc60 0 s.sched.now)) ∧
    (s.cfg = Config.default →
      exec .resetC s = .next { State.reset with
        env := { s.env with coldResets := s.env.coldResets + 1 }, out := s.out, inbox := s.inbox })

/-- SNAP returns the dump and changes no state: every register and counter as it stands, the timers' counters at
their live values, `ptr` at its current value (R500, R505). -/
def Obligations.SnapReturnsTheDump : Prop :=
  ∀ s : State, ∃ d : Dump, exec .snap s = .next (reporting s (.dump d)) ∧
    d.sched = s.sched ∧ d.bus = s.bus ∧ d.owner = some s.owner ∧ d.blit = s.blit ∧ d.dma = s.dma ∧
    d.vid = s.vid ∧ d.snd = s.snd ∧ d.ptr = scanPtr s ∧ d.cfg = s.cfg ∧
    { d.mfp with ta := s.mfp.ta, tb := s.mfp.tb, tc := s.mfp.tc, td := s.mfp.td } = s.mfp ∧
    (∀ id : TimerId, timerGet d.mfp id =
      { timerGet s.mfp id with cnt := (liveCounter s id).1, res := (liveCounter s id).2 })

/-- RESTORE of a snapshot of `s`, at any state with the same RAM and configuration, gives `s` again; what is
outside the dump by the model's choice, the environment's answers, the output streams and the waiting commands,
is the restoring state's (R502; entry 27). The premises say that `s` is one that no check of R486 repairs; a
snapshot taken while a mode with fewer lines than the current one is set is repaired (entry 39). -/
def Obligations.RestoreOfASnapshot : Prop :=
  ∀ s s' : State, Inv s → s.blit.timeout ≤ s.cfg.blitSlice →
    (s.owner ≠ .blit → s.blit.phase = phaseIdle) →
    s.vid.line < (videoTiming s.cfg (videoMode s.vid)).lines →
    s'.mem = s.mem → s'.cfg = s.cfg →
    exec (.restore (some (takeDump s))) s' =
      .next { s with env := s'.env, out := s'.out, inbox := s'.inbox }

/-- RESTORE of any dump of the same configuration completes in a well-formed state, whatever the dump holds, and
touches no byte of RAM (R486, R501). -/
def Obligations.RestoreOfAnyDumpIsWellFormed : Prop :=
  ∀ (s : State) (d : Dump), s.cfg.wf = true → s.mem.wf = true → d.cfg = s.cfg →
    ∃ t, exec (.restore (some d)) s = .next t ∧ Inv t ∧ SameRam s t

/-- The recoveries of R486, row by row: each unit the dump leaves in a bad state is put to idle and traced, and
no pending bit is set. The video unit goes to its reset state, the first line of NTSC_60 (R523; entry 26). An owner
that is none of the three is the dump's `none` (entry 27), and address bits that are not held are dropped (entry
37). -/
def Obligations.RestoreRecoversBadUnits : Prop :=
  ∀ (s : State) (d : Dump), d.cfg = s.cfg → ∃ t, exec (.restore (some d)) s = .next t ∧
    t.mfp.ipr = d.mfp.ipr ∧ t.sched.now = d.sched.now ∧
    (4 < d.blit.phase.toNat ∨ s.cfg.blitSlice < d.blit.timeout ∨
        (d.owner = some .blit ∧ d.blit.phase = 0) ∨ (d.owner ≠ some .blit ∧ d.blit.phase ≠ 0) →
      t.blit.busy = false ∧ t.blit.phase = 0 ∧ t.blit.request = false ∧ (t.slot .blitResume).due = none ∧
      t.mfp.ext.getLsbD s.cfg.blitGpio.toNat = false ∧ t.owner ≠ .blit ∧
      (d.sched.now, TraceRec.invalidState .blitter) ∈ t.out.trace) ∧
    (d.owner = none ∨ 8 < d.bus.burstLeft ∨ ¬ (d.owner = some .dma ↔ 0 < d.bus.burstLeft) →
      t.owner = .cpu ∧ t.bus.burstLeft = 0 ∧
      (d.sched.now, TraceRec.invalidState .arbiter) ∈ t.out.trace) ∧
    (16 < d.dma.idx ∨ d.dma.byteCnt % 16 ≠ 0 ∨ 512 ≤ d.dma.byteCnt ∨ 1 < d.dma.active →
      t.dma = { Dma.reset with
        mode := d.dma.mode, addr := addrReg s.cfg d.dma.addr, idx := if d.dma.mode.getLsbD 8 then 16 else 0 } ∧
      t.mfp.ext.getLsbD s.cfg.dmaGpio.toNat = false ∧
      (d.sched.now, TraceRec.invalidState .dma) ∈ t.out.trace) ∧
    (4 < d.snd.fifo.length →
      t.snd = { d.snd with fifo := [], en := false } ∧ (t.slot .sndDrain).due = none ∧
      (d.sched.now, TraceRec.invalidState .sound) ∈ t.out.trace) ∧
    ((videoTiming s.cfg (videoMode d.vid)).lines ≤ d.vid.line ∨ boundsOk d.vid.bounds = false →
      (let m := s.cfg.vtNtsc60
       let pic := decide (m.picFirst ≤ 0 ∧ 0 ≤ m.picLast)
       t.vid = { Vid.blank with
         lineStart := d.sched.now, bounds := ⟨m.lineLen, m.winStart, m.winEnd, m.hbStart, pic⟩ } ∧
       (t.slot .vidLine).due = some (d.sched.now + m.lineLen) ∧
       (t.slot .vidDeOn).due = (if pic then some (d.sched.now + m.winStart) else none) ∧
       (t.slot .vidDeOff).due = (if pic then some (d.sched.now + m.winEnd) else none) ∧
       (t.slot .vidHb).due = some (d.sched.now + m.hbStart)) ∧
      (d.sched.now, TraceRec.invalidState .video) ∈ t.out.trace)

/-! ### Narrow calls -/

/-- SCHEDULE overwrites the slot's one entry with a fresh `seq` (R143). REQUEST_BUS of the blitter sets its
request and stores no ticks, that of the DMA engine stores nothing; IDLE adds its ticks to `now` and `cpu_idle`
(R166, R169). PUSH_SAMPLE appends to the FIFO, or drops the word when the FIFO holds 4 (R454). That a narrow call
can be executed by itself, in every state, is the model's choice (entry 35). -/
def Obligations.NarrowCalls : Prop :=
  (∀ (s : State) (id : SlotId) (due : Option Nat), ∃ t, exec (.schedule id due) s = .next t ∧
    t = { s with sched := t.sched } ∧ t.sched.now = s.sched.now ∧ t.sched.seqNext = s.sched.seqNext + 1 ∧
    t.slot id = ⟨due, s.sched.seqNext, true⟩ ∧ ∀ x, x ≠ id → t.slot x = s.slot x) ∧
  (∀ (s : State) (c : Nat),
    exec (.requestBus .blit c) s = .next { s with blit := { s.blit with request := true } } ∧
    exec (.requestBus .dma c) s = .next s ∧
    exec (.idle c) s = .next { s with
      sched := { s.sched with now := s.sched.now + c }
      bus := { s.bus with cpuIdle := s.bus.cpuIdle + c } }) ∧
  (∀ (s : State) (w : Word),
    (s.snd.fifo.length = 4 → exec (.pushSample w) s = .next s) ∧
    (s.snd.fifo.length ≠ 4 →
      exec (.pushSample w) s = .next { s with snd := { s.snd with fifo := s.snd.fifo ++ [w] } }))

/-- ADVANCE ends under a well-formed configuration: it fires events one at a time, each as FIRE does, until no
slot is due; the clock stays and RAM is untouched (R144, R145). That ADVANCE can be executed by itself is the model's
choice (entry 35), and so is the fault where the loop never ends (entry 25). -/
def Obligations.AdvanceEnds : Prop :=
  ∀ s : State, s.cfg.wf = true → ∃ n t, exec .advance s = .next t ∧
    t = fireOne^[n] s ∧ (∀ k < n, fireEnabled (fireOne^[k] s) = true) ∧ fireEnabled t = false ∧
    t.sched.now = s.sched.now ∧ SameRam s t

/-! ### Internal steps -/

/-- FIRE clears the due slot with the least `(due, seq)`, then runs its callback with the due time; it costs no
ticks of its own (R145). -/
def Obligations.FireTakesTheLeastDueEvent : Prop :=
  ∀ (s : State) (id : SlotId) (d : Nat), (s.slot id).due = some d → d ≤ s.sched.now →
    (∀ (x : SlotId) (e : Nat), x ≠ id → (s.slot x).due = some e →
      d < e ∨ (d = e ∧ (s.slot id).seq < (s.slot x).seq)) →
    exec .fire s = .next (callback
      { s with sched := { s.sched with slots := slotPut s.sched.slots id { s.slot id with due := none } } } id d)

/-- The callbacks of the timers and of BLIT_RESUME (R146, R332, R234): the underflow is an occurrence of the
timer's source, and the next is due one period after `t`; a yielded blit asks for the bus again. -/
def Obligations.TimerAndResumeCallbacks : Prop :=
  ∀ (s : State) (t : Nat),
    (∀ (id : TimerId) (p : Nat), timerClass (timerGet s.mfp id).ctrl = .delay p →
      callback s (timerSlot id) t = scheduled (occurred s (timerSource id)) (timerSlot id)
        (some (t + (if (timerGet s.mfp id).data = 0 then 256 else (timerGet s.mfp id).data.toNat) * p))) ∧
    (s.blit.busy = true → s.blit.request = false →
      callback s .blitResume t =
        { s with blit := { s.blit with timeout := s.cfg.blitSlice, request := true } }) ∧
    (s.blit.busy = false ∨ s.blit.request = true → callback s .blitResume t = s)

/-- The callback of VID_LINE: the next scanline starts at `t`, with the bounds of the mode of that moment, and
its events are armed from `t` (R430, R434, R439). -/
def Obligations.ScanlineCallback : Prop :=
  ∀ (s : State) (t : Nat),
    let vt := videoTiming s.cfg
      (if 2 ≤ s.vid.shiftMode.toNat then .mono71 else if s.vid.sync.getLsbD 1 then .pal50 else .ntsc60)
    callback s .vidLine t = lineArmed s vt (if vt.lines ≤ s.vid.line + 1 then 0 else s.vid.line + 1) t

/-- The callbacks of VID_DE_ON and VID_DE_OFF move `de`, which is timer B's event input: on the edge AER[3]
selects, in event-count mode, the counter goes down by one, and at 0 source 8 occurs (R335, R435, R436). -/
def Obligations.DisplayEnableCallbacks : Prop :=
  ∀ (s : State) (t : Nat) (v : Bool),
    let id : SlotId := if v then .vidDeOn else .vidDeOff
    let s1 := { s with vid := { s.vid with de := v }, mfp := { s.mfp with tbi := v } }
    let c := s.mfp.tb.cnt - 1
    (s.mfp.tbi ≠ v → v = s.mfp.aer.getLsbD 3 → s.mfp.tb.ctrl = 8 → c ≠ 0 →
      callback s id t = { s1 with mfp := { s1.mfp with tb := { s1.mfp.tb with cnt := c } } }) ∧
    (s.mfp.tbi ≠ v → v = s.mfp.aer.getLsbD 3 → s.mfp.tb.ctrl = 8 → c = 0 →
      let s2 := occurred s1 8
      callback s id t = { s2 with mfp := { s2.mfp with tb := { s2.mfp.tb with cnt := s2.mfp.tb.data } } }) ∧
    (s.mfp.tbi = v ∨ v ≠ s.mfp.aer.getLsbD 3 ∨ s.mfp.tb.ctrl ≠ 8 → callback s id t = s1)

/-- The callbacks of VID_HB and SND_DRAIN: the blanking window fills the FIFO with the words the environment has
fixed, and with some words `ws` where it has fixed too few (entry 11); a drain hands the oldest word, or the last one
again, to the sink and re-arms from `t` (R437, R456). -/
def Obligations.SoundCallbacks : Prop :=
  ∀ (s : State) (t : Nat),
    (s.snd.en = false → callback s .vidHb t = s) ∧
    (s.snd.en = true → s.snd.fifo.length ≤ 4 →
      let need := 4 - s.snd.fifo.length
      ∃ ws : List Word, ws.length = need - s.env.samples.length ∧
        callback s .vidHb t = { s with
          snd := { s.snd with fifo := s.snd.fifo ++ s.env.samples.take need ++ ws }
          env := { s.env with samples := s.env.samples.drop need, draws := s.env.draws + ws.length } }) ∧
    (∀ (w : Word) (rest : List Word), s.snd.fifo = w :: rest →
      callback s .sndDrain t = scheduled { s with
        snd := { s.snd with fifo := rest, last := w }
        out := { s.out with samples := s.out.samples ++ [w] } }
        .sndDrain (some (t + samplePeriod s.cfg s.snd.rate))) ∧
    (s.snd.fifo = [] →
      callback s .sndDrain t = scheduled { s with
        out := { s.out with samples := s.out.samples ++ [s.snd.last] } }
        .sndDrain (some (t + samplePeriod s.cfg s.snd.rate)))

/-- GRANT_DMA starts a burst of 8 words; GRANT_BLIT starts a window in PRIME or READ_SOURCE (R163, R164). -/
def Obligations.GrantsOfTheBus : Prop :=
  ∀ s : State,
    (pendingStep s = some .grantDma →
      exec .grantDma s = .next { s with owner := .dma, bus := { s.bus with burstLeft := 8 } }) ∧
    (pendingStep s = some .grantBlit →
      let p : BitVec 3 := if s.blit.fxsr = true ∧ s.blit.xCount = s.blit.xReload then 1 else 2
      exec .grantBlit s = .next (tracing { s with
        owner := .blit
        blit := { s.blit with request := false, windows := s.blit.windows + 1, phase := p } }
        (.blitPhase 0 p)))

/-- The reading phases of BLIT_PHASE: PRIME and READ_SOURCE shift the source word into `srcbuf` and step the
source address, READ_DEST latches the destination word; one transaction each, with RAM, another unit's bank, an
`EXT` device or no device (R96, R222, R223, R224, R227, R238; the blitter's own bank is 93 U9). -/
def Obligations.BlitReadingPhases : Prop :=
  ∀ (s t : State) (w : Word), pendingStep s = some .blitPhase →
    let b := s.blit
    let shifted : BitVec 32 :=
      if b.srcXinc.msb then (b.srcbuf >>> 16) ||| (w.setWidth 32 <<< 16) else (b.srcbuf <<< 16) ||| w.setWidth 32
    let mask := if b.xCount = b.xReload then b.endmask1 else if b.xCount = 1 then b.endmask3 else b.endmask2
    let next : BitVec 3 :=
      if mask ≠ 0xFFFF ∨ ¬ (b.op = 0 ∨ b.op = 3 ∨ b.op = 12 ∨ b.op = 15) then 3 else 4
    (b.phase = 1 → Fetched s .blit b.srcAddr w t →
      exec .blitPhase s = .next (tracing { t with blit := { b with
        srcbuf := shifted, srcAddr := onBus s.cfg (b.srcAddr + b.srcXinc.signExtend 32), phase := 2
        timeout := b.timeout - 1 } } (.blitPhase 1 2))) ∧
    (b.phase = 2 → Fetched s .blit b.srcAddr w t →
      exec .blitPhase s = .next (tracing { t with blit := { b with
        srcbuf := shifted
        srcAddr := onBus s.cfg (b.srcAddr + (if b.xCount = 1 then b.srcYinc else b.srcXinc).signExtend 32)
        phase := next, timeout := b.timeout - 1 } } (.blitPhase 2 next))) ∧
    (b.phase = 3 → Fetched s .blit b.dstAddr w t →
      exec .blitPhase s = .next (tracing { t with blit := { b with
        dlatch := w, phase := 4, timeout := b.timeout - 1 } } (.blitPhase 3 4)))

/-- WRITE_DEST inside a blit: the combined word is stored at DST_ADDR, the counters move, the bus is released,
and the blitter asks for the next window or yields for the CPU slice (R229, R230, R232, R233). The store goes to
RAM, another unit's bank, an `EXT` device, or nowhere with a bus error (R96). -/
def Obligations.BlitWriteGoesOn : Prop :=
  ∀ s u : State, pendingStep s = some .blitPhase → s.blit.phase = 4 →
    Stored s .blit s.blit.dstAddr (blitOut s.blit) u →
    let b := s.blit
    let moved (b1 : Blit) : State :=
      tracing { u with owner := .cpu, blit := { b1 with phase := 0, timeout := b.timeout - 1 } } (.blitPhase 4 0)
    let inside : Blit := { b with
      dstAddr := onBus s.cfg (b.dstAddr + b.dstXinc.signExtend 32), xCount := b.xCount - 1 }
    let atEnd : Blit := { b with
      dstAddr := onBus s.cfg (b.dstAddr + b.dstYinc.signExtend 32), xCount := b.xReload
      line := b.line + 1, yCount := b.yCount - 1 }
    let b1 := if b.xCount = 1 then atEnd else inside
    (b.xCount = 1 → b.yCount ≠ 1) →
    (b.hog = true ∨ 1 < b.timeout → exec .blitPhase s = .next (moved { b1 with request := true })) ∧
    (b.hog = false → b.timeout ≤ 1 →
      exec .blitPhase s = .next (scheduled (moved { b1 with request := false }) .blitResume
        (some (u.sched.now + s.cfg.cpuSlice))))

/-- WRITE_DEST of the last word of the last line ends the blit: BUSY, `request` and the phase are cleared, `done`
set, the bus released, and the blitter's line falls, with the edge that makes (R229, R230, R231). -/
def Obligations.BlitEndsAtItsLastWord : Prop :=
  ∀ s u : State, pendingStep s = some .blitPhase → s.blit.phase = 4 → s.blit.xCount = 1 → s.blit.yCount = 1 →
    Stored s .blit s.blit.dstAddr (blitOut s.blit) u →
    exec .blitPhase s = .next (lineMoved (tracing { u with
      owner := .cpu
      blit := { s.blit with
        dstAddr := onBus s.cfg (s.blit.dstAddr + s.blit.dstYinc.signExtend 32), xCount := s.blit.xReload
        line := s.blit.line + 1, yCount := 0, timeout := s.blit.timeout - 1
        busy := false, done := true, request := false, phase := 0 } } (.blitPhase 4 0)) s.cfg.blitGpio false)

/-- The word WRITE_DEST stores: skew, halftone pattern, logic operation, end mask (R220, R225, R226, R228). -/
def Obligations.BlitWordCombination : Prop :=
  ∀ b : Blit,
    let src : Word := (b.srcbuf >>> b.skew.toNat).extractLsb' 0 16
    let pat : Word := tableGet b.halftone (if b.smudge then src.extractLsb' 0 4 else b.line)
    let x : Word := if b.hop = 0 then 0xFFFF else if b.hop = 1 then pat else if b.hop = 2 then src else src &&& pat
    let mask := if b.xCount = b.xReload then b.endmask1 else if b.xCount = 1 then b.endmask3 else b.endmask2
    ∀ i : Nat, i < 16 → (blitOut b).getLsbD i =
      if mask.getLsbD i then b.op.getLsbD (3 - (2 * (x.getLsbD i).toNat + (b.dlatch.getLsbD i).toNat))
      else b.dlatch.getLsbD i

/-- A word of a burst that is not its last: disk-to-memory stores two bytes of the memory-side buffer in order,
memory-to-disk places the word read in reversed order; the address steps by 2 (R404, R405). The word goes to or
comes from RAM, another unit's bank, an `EXT` device, or meets a bus error (R96; the DMA bank is 93 U9). -/
def Obligations.DmaWordInsideABurst : Prop :=
  ∀ (s u : State) (w : Word), pendingStep s = some .dmaWord → 2 ≤ s.bus.burstLeft → s.bus.burstLeft ≤ 8 →
    let d := s.dma
    let j := 8 - s.bus.burstLeft
    let o := if d.active = 0 then d.buf1 else d.buf0
    let placed := (o.setIfInBounds (15 - 2 * j) (hiByte w)).setIfInBounds (14 - 2 * j) (loByte w)
    (d.mode.getLsbD 8 = false → Stored s .dma d.addr (mkWord (bufGet o (2 * j)) (bufGet o (2 * j + 1))) u →
      exec .dmaWord s = .next { u with
        dma := { d with addr := onBus s.cfg (d.addr + 2) }
        bus := { u.bus with burstLeft := s.bus.burstLeft - 1 } }) ∧
    (d.mode.getLsbD 8 = true → Fetched s .dma d.addr w u →
      exec .dmaWord s = .next { u with
        dma := { d with
          addr := onBus s.cfg (d.addr + 2)
          buf0 := if d.active = 0 then d.buf0 else placed
          buf1 := if d.active = 0 then placed else d.buf1 }
        bus := { u.bus with burstLeft := s.bus.burstLeft - 1 } })

/-- The last word of a burst: 16 more bytes are counted, 512 of them are a sector less and move the engine's
line, the bus is released, and the buffers swap if the controller side is done with its own (R404, R398, R411). -/
def Obligations.DmaBurstEnds : Prop :=
  ∀ (s u : State) (w : Word), pendingStep s = some .dmaWord → s.bus.burstLeft = 1 → s.dma.byteCnt ≤ 496 →
    let d := s.dma
    let o := if d.active = 0 then d.buf1 else d.buf0
    let placed := (o.setIfInBounds 1 (hiByte w)).setIfInBounds 0 (loByte w)
    let finish (d1 : Dma) : State :=
      let full := d.mode.getLsbD 8
      let sector := d.byteCnt = 496
      let d2 : Dma := { d1 with
        addr := onBus s.cfg (d.addr + 2), otherFull := full
        byteCnt := if sector then 0 else d.byteCnt + 16
        sectorCount := if sector then d.sectorCount - 1 else d.sectorCount }
      let v := { u with dma := d2, bus := { u.bus with burstLeft := 0 } }
      let v1 := if sector then lineMoved v s.cfg.dmaGpio (d2.sectorCount != 0) else v
      let v2 := tracing v1 (.dmaBurstComplete d2.addr d2.sectorCount)
      { v2 with
        owner := .cpu
        dma := if d.idx = 16 then { d2 with active := 1 - d.active, idx := 0, otherFull := !full } else d2 }
    (d.mode.getLsbD 8 = false → Stored s .dma d.addr (mkWord (bufGet o 14) (bufGet o 15)) u →
      exec .dmaWord s = .next (finish d)) ∧
    (d.mode.getLsbD 8 = true → Fetched s .dma d.addr w u →
      exec .dmaWord s = .next (finish { d with
        buf0 := if d.active = 0 then d.buf0 else placed
        buf1 := if d.active = 0 then placed else d.buf1 }))

/-! ### Register accesses -/

/-- What the CPU reads at the blitter's registers; a read changes nothing but the latches and the clock (R90,
R200 to R208, R210). An address reads its `ADDR_BITS` bits, bit 0 as 0. -/
def Obligations.ReadsOfBlitterRegisters : Prop :=
  ∀ (s : State) (l : Lane), cpuEnabled s = true →
    let b := s.blit
    let src := addrReg s.cfg b.srcAddr
    let dst := addrReg s.cfg b.dstAddr
    (∀ n, exec (.regBlitHalftone n (.rd l)) s = .next (read16 s .blit (2 * n.toNat) (tableGet b.halftone n) l)) ∧
    exec (.regBlitSrcXinc (.rd l)) s = .next (read16 s .blit 0x20 b.srcXinc l) ∧
    exec (.regBlitSrcYinc (.rd l)) s = .next (read16 s .blit 0x22 b.srcYinc l) ∧
    exec (.regBlitSrcAddrH (.rd l)) s = .next (read16 s .blit 0x24 (src.extractLsb' 16 16) l) ∧
    exec (.regBlitSrcAddrL (.rd l)) s = .next (read16 s .blit 0x26 (src.extractLsb' 0 16) l) ∧
    exec (.regBlitEndmask1 (.rd l)) s = .next (read16 s .blit 0x28 b.endmask1 l) ∧
    exec (.regBlitEndmask2 (.rd l)) s = .next (read16 s .blit 0x2A b.endmask2 l) ∧
    exec (.regBlitEndmask3 (.rd l)) s = .next (read16 s .blit 0x2C b.endmask3 l) ∧
    exec (.regBlitDstXinc (.rd l)) s = .next (read16 s .blit 0x2E b.dstXinc l) ∧
    exec (.regBlitDstYinc (.rd l)) s = .next (read16 s .blit 0x30 b.dstYinc l) ∧
    exec (.regBlitDstAddrH (.rd l)) s = .next (read16 s .blit 0x32 (dst.extractLsb' 16 16) l) ∧
    exec (.regBlitDstAddrL (.rd l)) s = .next (read16 s .blit 0x34 (dst.extractLsb' 0 16) l) ∧
    exec (.regBlitXCount (.rd l)) s = .next (read16 s .blit 0x36 b.xCount l) ∧
    exec (.regBlitYCount (.rd l)) s = .next (read16 s .blit 0x38 b.yCount l) ∧
    exec (.regBlitHop .rd) s = .next (read8 s .blit 0x3A (b.hop.setWidth 8)) ∧
    exec (.regBlitOp .rd) s = .next (read8 s .blit 0x3B (b.op.setWidth 8)) ∧
    exec .regBlitCtrlRead s = .next (read8 s .blit 0x3C
      (BitVec.ofBool b.busy ++ BitVec.ofBool b.hog ++ BitVec.ofBool b.smudge ++ 0#1 ++ b.line)) ∧
    exec (.regBlitSkew .rd) s = .next (read8 s .blit 0x3D
      (BitVec.ofBool b.fxsr ++ BitVec.ofBool b.rsv6 ++ 0#2 ++ b.skew))

/-- What a CPU write of the blitter's operand registers leaves: the register's new value, hardwired bits 0, bytes
not written at their current value (R89, R200 to R207, R210). -/
def Obligations.WritesOfBlitterRegisters : Prop :=
  ∀ (s : State) (w : Wr16) (v : Byte), cpuEnabled s = true →
    let b := s.blit
    let src := addrReg s.cfg b.srcAddr
    let dst := addrReg s.cfg b.dstAddr
    let set (b1 : Blit) : State := { s with blit := b1 }
    let setSrc (a : Addr) : State := set { b with srcAddr := addrReg s.cfg a }
    let setDst (a : Addr) : State := set { b with dstAddr := addrReg s.cfg a }
    (∀ n, exec (.regBlitHalftone n (.wr w)) s = .next (wrote16
      (set { b with halftone := b.halftone.set n.toNat (merged (tableGet b.halftone n) w) n.isLt })
      .blit (2 * n.toNat) w)) ∧
    exec (.regBlitSrcXinc (.wr w)) s =
      .next (wrote16 (set { b with srcXinc := merged b.srcXinc w &&& 0xFFFE }) .blit 0x20 w) ∧
    exec (.regBlitSrcYinc (.wr w)) s =
      .next (wrote16 (set { b with srcYinc := merged b.srcYinc w &&& 0xFFFE }) .blit 0x22 w) ∧
    exec (.regBlitDstXinc (.wr w)) s =
      .next (wrote16 (set { b with dstXinc := merged b.dstXinc w &&& 0xFFFE }) .blit 0x2E w) ∧
    exec (.regBlitDstYinc (.wr w)) s =
      .next (wrote16 (set { b with dstYinc := merged b.dstYinc w &&& 0xFFFE }) .blit 0x30 w) ∧
    exec (.regBlitSrcAddrH (.wr w)) s =
      .next (wrote16 (setSrc (merged (src.extractLsb' 16 16) w ++ src.extractLsb' 0 16)) .blit 0x24 w) ∧
    exec (.regBlitSrcAddrL (.wr w)) s =
      .next (wrote16 (setSrc (src.extractLsb' 16 16 ++ merged (src.extractLsb' 0 16) w)) .blit 0x26 w) ∧
    exec (.regBlitDstAddrH (.wr w)) s =
      .next (wrote16 (setDst (merged (dst.extractLsb' 16 16) w ++ dst.extractLsb' 0 16)) .blit 0x32 w) ∧
    exec (.regBlitDstAddrL (.wr w)) s =
      .next (wrote16 (setDst (dst.extractLsb' 16 16 ++ merged (dst.extractLsb' 0 16) w)) .blit 0x34 w) ∧
    exec (.regBlitEndmask1 (.wr w)) s =
      .next (wrote16 (set { b with endmask1 := merged b.endmask1 w }) .blit 0x28 w) ∧
    exec (.regBlitEndmask2 (.wr w)) s =
      .next (wrote16 (set { b with endmask2 := merged b.endmask2 w }) .blit 0x2A w) ∧
    exec (.regBlitEndmask3 (.wr w)) s =
      .next (wrote16 (set { b with endmask3 := merged b.endmask3 w }) .blit 0x2C w) ∧
    exec (.regBlitXCount (.wr w)) s = .next (wrote16
      (set { b with xCount := merged b.xCount w, xReload := merged b.xCount w }) .blit 0x36 w) ∧
    exec (.regBlitYCount (.wr w)) s = .next (wrote16 (set { b with yCount := merged b.yCount w }) .blit 0x38 w) ∧
    exec (.regBlitHop (.wr v)) s = .next (wrote8 (set { b with hop := v.extractLsb' 0 2 }) .blit 0x3A v) ∧
    exec (.regBlitOp (.wr v)) s = .next (wrote8 (set { b with op := v.extractLsb' 0 4 }) .blit 0x3B v) ∧
    exec (.regBlitSkew (.wr v)) s = .next (wrote8
      (set { b with fxsr := v.getLsbD 7, rsv6 := v.getLsbD 6, skew := v.extractLsb' 0 4 }) .blit 0x3D v)

/-- What a CPU write of CTRL leaves: HOG, SMUDGE and LINE, and by BUSY old and new the start, the restart, the
abort, or nothing more (R209, R211, R212, R213). -/
def Obligations.WriteOfBlitterControl : Prop :=
  ∀ (s : State) (v : Byte), cpuEnabled s = true →
    let b : Blit := { s.blit with hog := v.getLsbD 6, smudge := v.getLsbD 5, line := v.extractLsb' 0 4 }
    let slice := s.cfg.blitSlice
    let wrote (t : State) : Host.Outcome State Fault Refusal := .next (wrote8 t .blit 0x3C v)
    (v.getLsbD 7 = true → s.blit.busy = false → exec (.regBlitCtrlWrite v) s = wrote (lineMoved { s with
      blit := { b with busy := true, done := false, windows := 0, phase := 0, timeout := slice, request := true } }
      s.cfg.blitGpio true)) ∧
    (v.getLsbD 7 = true → s.blit.busy = true → exec (.regBlitCtrlWrite v) s = wrote
      (scheduled { s with blit := { b with timeout := slice, request := true } } .blitResume none)) ∧
    (v.getLsbD 7 = false → s.blit.busy = true → exec (.regBlitCtrlWrite v) s = wrote (lineMoved
      (scheduled { s with blit := { b with busy := false, request := false, phase := 0 } } .blitResume none)
      s.cfg.blitGpio false)) ∧
    (v.getLsbD 7 = false → s.blit.busy = false → exec (.regBlitCtrlWrite v) s = wrote { s with blit := b })

/-- What the CPU reads at the registers of the timer and interrupt controller (R90, R280 to R289). -/
def Obligations.ReadsOfMfpRegisters : Prop :=
  ∀ s : State, cpuEnabled s = true →
    let m := s.mfp
    (∃ v : Byte, exec (.regMfpGpip .rd) s = .next (read8 s .mfp 0x01 v) ∧
      ∀ i : Nat, v.getLsbD i = if m.ddr.getLsbD i then m.gpipOut.getLsbD i else m.ext.getLsbD i) ∧
    exec (.regMfpAer .rd) s = .next (read8 s .mfp 0x03 m.aer) ∧
    exec (.regMfpDdr .rd) s = .next (read8 s .mfp 0x05 m.ddr) ∧
    exec (.regMfpIera .rd) s = .next (read8 s .mfp 0x07 (m.ier.extractLsb' 8 8)) ∧
    exec (.regMfpIerb .rd) s = .next (read8 s .mfp 0x09 (m.ier.extractLsb' 0 8)) ∧
    exec (.regMfpIpra .rd) s = .next (read8 s .mfp 0x0B (m.ipr.extractLsb' 8 8)) ∧
    exec (.regMfpIprb .rd) s = .next (read8 s .mfp 0x0D (m.ipr.extractLsb' 0 8)) ∧
    exec (.regMfpIsra .rd) s = .next (read8 s .mfp 0x0F (m.isr.extractLsb' 8 8)) ∧
    exec (.regMfpIsrb .rd) s = .next (read8 s .mfp 0x11 (m.isr.extractLsb' 0 8)) ∧
    exec (.regMfpImra .rd) s = .next (read8 s .mfp 0x13 (m.imr.extractLsb' 8 8)) ∧
    exec (.regMfpImrb .rd) s = .next (read8 s .mfp 0x15 (m.imr.extractLsb' 0 8)) ∧
    exec (.regMfpVr .rd) s = .next (read8 s .mfp 0x17 m.vr) ∧
    exec (.regMfpTacr .rd) s = .next (read8 s .mfp 0x19 (m.ta.ctrl.setWidth 8)) ∧
    exec (.regMfpTbcr .rd) s = .next (read8 s .mfp 0x1B (m.tb.ctrl.setWidth 8)) ∧
    exec (.regMfpTcdcr .rd) s = .next (read8 s .mfp 0x1D
      (0#1 ++ m.tc.ctrl.extractLsb' 0 3 ++ 0#1 ++ m.td.ctrl.extractLsb' 0 3))

/-- What a CPU write of the controller's registers leaves: pending bits of sources just disabled go, IPR and ISR
bits can be cleared and not set, VR with S = 0 ends every service (R280 to R287, R314, R316, R317, R319). -/
def Obligations.WritesOfMfpRegisters : Prop :=
  ∀ (s : State) (v : Byte), cpuEnabled s = true →
    let m := s.mfp
    let set (m1 : Mfp) : State := { s with mfp := m1 }
    let ierA : Word := v ++ m.ier.extractLsb' 0 8
    let ierB : Word := m.ier.extractLsb' 8 8 ++ v
    exec (.regMfpGpip (.wr v)) s = .next (wrote8 (set { m with gpipOut := v }) .mfp 0x01 v) ∧
    exec (.regMfpAer (.wr v)) s = .next (wrote8 (set { m with aer := v }) .mfp 0x03 v) ∧
    exec (.regMfpDdr (.wr v)) s = .next (wrote8 (set { m with ddr := v }) .mfp 0x05 v) ∧
    exec (.regMfpIera (.wr v)) s =
      .next (wrote8 (set { m with ier := ierA, ipr := m.ipr &&& ierA }) .mfp 0x07 v) ∧
    exec (.regMfpIerb (.wr v)) s =
      .next (wrote8 (set { m with ier := ierB, ipr := m.ipr &&& ierB }) .mfp 0x09 v) ∧
    exec (.regMfpIpra (.wr v)) s = .next (wrote8 (set { m with ipr := m.ipr &&& (v ++ 0xFF#8) }) .mfp 0x0B v) ∧
    exec (.regMfpIprb (.wr v)) s = .next (wrote8 (set { m with ipr := m.ipr &&& (0xFF#8 ++ v) }) .mfp 0x0D v) ∧
    exec (.regMfpIsra (.wr v)) s = .next (wrote8 (set { m with isr := m.isr &&& (v ++ 0xFF#8) }) .mfp 0x0F v) ∧
    exec (.regMfpIsrb (.wr v)) s = .next (wrote8 (set { m with isr := m.isr &&& (0xFF#8 ++ v) }) .mfp 0x11 v) ∧
    exec (.regMfpImra (.wr v)) s =
      .next (wrote8 (set { m with imr := v ++ m.imr.extractLsb' 0 8 }) .mfp 0x13 v) ∧
    exec (.regMfpImrb (.wr v)) s =
      .next (wrote8 (set { m with imr := m.imr.extractLsb' 8 8 ++ v }) .mfp 0x15 v) ∧
    exec (.regMfpVr (.wr v)) s = .next (wrote8
      (set { m with vr := v.extractLsb' 3 5 ++ 0#3, isr := if v.getLsbD 3 then m.isr else 0 }) .mfp 0x17 v)

/-- A write of a timer control register is `set_mode` of its timer, of C then D for TCDCR (R288, R289); what
`set_mode` does is said under the field codes. A timer data register reads the stored counter of a timer that does
not run in a delay mode, else the ticks left over the divider rounded up, 256 read as 0; a write sets the reload
value, and the counter of a stopped timer (R290, R331). -/
def Obligations.TimerRegisters : Prop :=
  (∀ (s : State) (v : Byte), cpuEnabled s = true →
    exec (.regMfpTacr (.wr v)) s = .next (wrote8 (setMode s .a (v.extractLsb' 0 4)) .mfp 0x19 v) ∧
    exec (.regMfpTbcr (.wr v)) s = .next (wrote8 (setMode s .b (v.extractLsb' 0 4)) .mfp 0x1B v) ∧
    exec (.regMfpTcdcr (.wr v)) s = .next (wrote8
      (setMode (setMode s .c (0#1 ++ v.extractLsb' 4 3)) .d (0#1 ++ v.extractLsb' 0 3)) .mfp 0x1D v)) ∧
  (∀ (s : State) (id : TimerId) (o : Nat) (reg : Acc8 → Instr), cpuEnabled s = true →
    (id, o, reg .rd) ∈ [(TimerId.a, 0x1F, Instr.regMfpTadr .rd), (.b, 0x21, .regMfpTbdr .rd),
      (.c, 0x23, .regMfpTcdr .rd), (.d, 0x25, .regMfpTddr .rd)] →
    reg ∈ [Instr.regMfpTadr, .regMfpTbdr, .regMfpTcdr, .regMfpTddr] →
    let tm := timerGet s.mfp id
    ((∀ p, timerClass tm.ctrl ≠ .delay p) → exec (reg .rd) s = .next (read8 s .mfp o tm.cnt)) ∧
    (∀ p due, timerClass tm.ctrl = .delay p → (s.slot (timerSlot id)).due = some due → s.sched.now < due →
      exec (reg .rd) s = .next (read8 s .mfp o (BitVec.ofNat 8 ((due - s.sched.now + p - 1) / p)))) ∧
    (∀ v : Byte,
      let tm1 : Timer := { tm with data := v, cnt := if timerClass tm.ctrl = .stopped then v else tm.cnt }
      exec (reg (.wr v)) s = .next (wrote8 { s with mfp := timerPut s.mfp id tm1 } .mfp o v)))

/-- What the CPU reads and writes at the DMA engine's registers other than DATA: STATUS, the address bytes, and
MODE, where a change of direction resets the engine (R381, R382, R383, R386). A write of one byte of MODE merges
with STATUS, the value read at its offset (entry 17). -/
def Obligations.DmaModeStatusAndAddress : Prop :=
  ∀ (s : State) (l : Lane) (w : Wr16) (v : Byte), cpuEnabled s = true →
    let d := s.dma
    let status : Word := 0#14 ++ BitVec.ofBool (d.sectorCount == 0) ++ BitVec.ofBool d.err
    let set (d1 : Dma) : State := { s with dma := d1 }
    let addr (a : Addr) : State := set { d with addr := addrReg s.cfg a }
    let mode := merged status w
    exec (.regDmaStatus l) s = .next (read16 s .dma 0x06 status l) ∧
    exec (.regDmaAddrHi .rd) s = .next (read8 s .dma 0x09 ((addrReg s.cfg d.addr).extractLsb' 16 8)) ∧
    exec (.regDmaAddrMid .rd) s = .next (read8 s .dma 0x0B ((addrReg s.cfg d.addr).extractLsb' 8 8)) ∧
    exec (.regDmaAddrLo .rd) s = .next (read8 s .dma 0x0D ((addrReg s.cfg d.addr).extractLsb' 0 8)) ∧
    exec (.regDmaAddrHi (.wr v)) s = .next (wrote8 (addr
      (d.addr.extractLsb' 24 8 ++ v ++ d.addr.extractLsb' 0 16)) .dma 0x09 v) ∧
    exec (.regDmaAddrMid (.wr v)) s = .next (wrote8 (addr
      (d.addr.extractLsb' 16 16 ++ v ++ d.addr.extractLsb' 0 8)) .dma 0x0B v) ∧
    exec (.regDmaAddrLo (.wr v)) s = .next (wrote8 (addr (d.addr.extractLsb' 8 24 ++ v)) .dma 0x0D v) ∧
    (mode.getLsbD 8 = d.mode.getLsbD 8 →
      exec (.regDmaMode w) s = .next (wrote16 (set { d with mode := mode }) .dma 0x06 w)) ∧
    (mode.getLsbD 8 ≠ d.mode.getLsbD 8 →
      exec (.regDmaMode w) s = .next (wrote16 (lineMoved
        (set { Dma.reset with mode := mode, addr := d.addr, idx := if mode.getLsbD 8 then 16 else 0 })
        s.cfg.dmaGpio false) .dma 0x06 w))

/-- What the CPU reads and writes at DATA: with SC_SEL = 1 the sector counter, whose write moves the engine's
line; with SC_SEL = 0 the external controller, which answers with the next word the environment has fixed, or with
some word `c` where it has fixed none (R384, R385, R411). Both rows of the table reach what SC_SEL selects (entries
11, 13, 18). -/
def Obligations.DmaDataPort : Prop :=
  ∀ (s : State) (acc : Acc16 → Instr), cpuEnabled s = true →
    acc = Instr.regDmaDataCount ∨ acc = Instr.regDmaDataController →
    let d := s.dma
    let ca := d.mode.extractLsb' 1 2
    (d.mode.getLsbD 4 = true →
      (∀ l, exec (acc (.rd l)) s = .next (read16 s .dma 0x04 (byteToWord d.sectorCount) l)) ∧
      (∀ w, let n := loByte (merged (byteToWord d.sectorCount) w)
        exec (acc (.wr w)) s = .next (wrote16
          (lineMoved { s with dma := { d with sectorCount := n } } s.cfg.dmaGpio (n != 0)) .dma 0x04 w))) ∧
    (d.mode.getLsbD 4 = false →
      (∀ v, exec (acc (.wr (.both v))) s = .next (wrote16 (handed s (.ctrlWrite ca v)) .dma 0x04 (.both v))) ∧
      (∃ c : Word, (∀ x, s.env.ctrl.head? = some x → c = x) ∧
        let s1 := handed (tookCtrl s) (.ctrlRead ca)
        (∀ l, exec (acc (.rd l)) s = .next (read16 s1 .dma 0x04 c l)) ∧
        (∀ v, exec (acc (.wr (.hi v))) s = .next (wrote16
          (handed s1 (.ctrlWrite ca (merged c (.hi v)))) .dma 0x04 (.hi v))) ∧
        (∀ v, exec (acc (.wr (.lo v))) s = .next (wrote16
          (handed s1 (.ctrlWrite ca (merged c (.lo v)))) .dma 0x04 (.lo v)))))

/-- What the CPU reads and writes at the video and sound registers: palette bits outside `PAL_MASK` are dropped,
each picture register's write is recorded at its place in the line (entries 38, 40), and SND_CTRL arms or cancels
the drain (R443 to R449, R457, R458). -/
def Obligations.VideoAndSoundRegisters : Prop :=
  ∀ (s : State) (l : Lane) (w : Wr16) (v : Byte) (n : BitVec 4), cpuEnabled s = true →
    ∃ x : Nat, (s.vid.lineStart ≤ s.sched.now → x = s.sched.now - s.vid.lineStart) ∧
    let colour := merged (tableGet s.vid.palette n) w &&& s.cfg.palMask
    let snd1 := { s with snd := { s.snd with en := v.getLsbD 0 } }
    exec (.regVidPaletteRead n l) s = .next (read16 s .vid (0x40 + 2 * n.toNat) (tableGet s.vid.palette n) l) ∧
    exec (.regVidPaletteWrite n w) s = .next (wrote16 (sinking
      { s with vid := { s.vid with palette := s.vid.palette.set n.toNat colour n.isLt } }
      (.paletteChange s.vid.line x n colour)) .vid (0x40 + 2 * n.toNat) w) ∧
    exec (.regVidSync .rd) s = .next (read8 s .vid 0x0A (s.vid.sync.setWidth 8)) ∧
    exec (.regVidSync (.wr v)) s =
      .next (wrote8 { s with vid := { s.vid with sync := v.extractLsb' 0 2 } } .vid 0x0A v) ∧
    exec .regVidShiftModeRead s = .next (read8 s .vid 0x60 (s.vid.shiftMode.setWidth 8)) ∧
    exec (.regVidShiftModeWrite v) s = .next (wrote8 (sinking
      { s with vid := { s.vid with shiftMode := v.extractLsb' 0 2 } }
      (.modeChange s.vid.line x (v.extractLsb' 0 2))) .vid 0x60 v) ∧
    exec (.regVidHscroll .rd) s = .next (read8 s .vid 0x65 (s.vid.hscroll.setWidth 8)) ∧
    exec (.regVidHscroll (.wr v)) s = .next (wrote8 (sinking
      { s with vid := { s.vid with hscroll := v.extractLsb' 0 4 } }
      (.scrollChange s.vid.line x (v.extractLsb' 0 4))) .vid 0x65 v) ∧
    exec (.regSndSndCtrl .rd) s = .next (read8 s .snd 0x01 (0#7 ++ BitVec.ofBool s.snd.en)) ∧
    (s.snd.en = v.getLsbD 0 → exec (.regSndSndCtrl (.wr v)) s = .next (wrote8 s .snd 0x01 v)) ∧
    (s.snd.en = false → v.getLsbD 0 = true → exec (.regSndSndCtrl (.wr v)) s = .next (wrote8
      (scheduled snd1 .sndDrain (some (s.sched.now + samplePeriod s.cfg s.snd.rate))) .snd 0x01 v)) ∧
    (s.snd.en = true → v.getLsbD 0 = false → exec (.regSndSndCtrl (.wr v)) s = .next (wrote8
      (scheduled snd1 .sndDrain none) .snd 0x01 v)) ∧
    exec (.regSndSndMode .rd) s = .next (read8 s .snd 0x21 (s.snd.rate.setWidth 8)) ∧
    exec (.regSndSndMode (.wr v)) s =
      .next (wrote8 { s with snd := { s.snd with rate := v.extractLsb' 0 2 } } .snd 0x21 v)

/-! ### Field codes -/

/-- The 16 logic operations and the 4 halftone operations: each code's row selects it, and the code names the
operation of its rule, the logic operations at every bit by the truth table of R260 (R120, R121, R240 to R259). That
executing a row writes its field with no bus transaction is the model's choice (entry 19). -/
def Obligations.BlitterOperationCodes : Prop :=
  ((∀ (s : State) (i : Instr) (op : BitVec 4), (i, op) ∈ [
      (Instr.opZero, 0), (.opAnd, 1), (.opAndNotd, 2), (.opSrc, 3), (.opNotsAnd, 4), (.opDst, 5), (.opXor, 6),
      (.opOr, 7), (.opNor, 8), (.opXnor, 9), (.opNotd, 10), (.opOrNotd, 11), (.opNots, 12), (.opNotsOr, 13),
      (.opNand, 14), (.opOne, 15)] →
    exec i s = .next { s with blit := { s.blit with op := op } }) ∧
  (∀ (op : BitVec 4) (x d : Word) (n : Nat), n < 16 →
    (logicOp op x d).getLsbD n = op.getLsbD (3 - (2 * (x.getLsbD n).toNat + (d.getLsbD n).toNat)))) ∧
  ((∀ (s : State) (i : Instr) (hop : BitVec 2),
    (i, hop) ∈ [(Instr.hopOnes, 0), (.hopHalftone, 1), (.hopSource, 2), (.hopSrcAndHt, 3)] →
    exec i s = .next { s with blit := { s.blit with hop := hop } }) ∧
  (∀ s h : Word, hopValue 0 s h = 0xFFFF ∧ hopValue 1 s h = h ∧ hopValue 2 s h = s ∧ hopValue 3 s h = s &&& h))

/-- The delay modes of the four timers (R321 to R327, R330): from a mode that is no delay mode the stored count of
periods runs, 0 counting 256; the same divider again changes nothing; another divider keeps the live count and
restarts the prescaler. -/
def Obligations.DelayModeCodes : Prop :=
  ∀ (s : State) (ab : TimerAB) (cd : TimerCD) (id : TimerId) (i : Instr) (m : BitVec 4) (p : Nat),
    (id, i, m, p) ∈ [
      (timerOfAB ab, .tmDiv4 ab, 1, 4), (timerOfAB ab, .tmDiv10 ab, 2, 10), (timerOfAB ab, .tmDiv16 ab, 3, 16),
      (timerOfAB ab, .tmDiv50 ab, 4, 50), (timerOfAB ab, .tmDiv64 ab, 5, 64), (timerOfAB ab, .tmDiv100 ab, 6, 100),
      (timerOfAB ab, .tmDiv200 ab, 7, 200),
      (timerOfCD cd, .tmDiv4Cd cd, 1, 4), (timerOfCD cd, .tmDiv10Cd cd, 2, 10),
      (timerOfCD cd, .tmDiv16Cd cd, 3, 16), (timerOfCD cd, .tmDiv50Cd cd, 4, 50),
      (timerOfCD cd, .tmDiv64Cd cd, 5, 64), (timerOfCD cd, .tmDiv100Cd cd, 6, 100),
      (timerOfCD cd, .tmDiv200Cd cd, 7, 200)] →
    let tm := timerGet s.mfp id
    let started (n : Nat) : State := scheduled
      { s with mfp := timerPut s.mfp id { tm with ctrl := m, cnt := 0, res := 0 } } (timerSlot id)
      (some (s.sched.now + n * p))
    ((∀ q, timerClass tm.ctrl ≠ .delay q) →
      exec i s = .next (started (if tm.cnt = 0 then 256 else tm.cnt.toNat))) ∧
    (timerClass tm.ctrl = .delay p → exec i s = .next s) ∧
    (∀ q due, q ≠ p → timerClass tm.ctrl = .delay q → (s.slot (timerSlot id)).due = some due →
      s.sched.now < due → due - s.sched.now ≤ 256 * q →
      exec i s = .next (started ((due - s.sched.now + q - 1) / q)))

/-- The modes that stop a timer, the reserved ones among them, and the event-count mode (R320, R328, R329, R330):
the slot is cancelled, and the counter is kept, frozen at its live value if the timer ran. -/
def Obligations.StoppedAndEventModeCodes : Prop :=
  ∀ (s : State) (ab : TimerAB) (cd : TimerCD) (id : TimerId) (i : Instr) (m : BitVec 4),
    (id, i, m) ∈ [
      (timerOfAB ab, .tmStop ab, 0), (timerOfAB ab, .tmEvent ab, 8), (timerOfAB ab, .tmRsv9 ab, 9),
      (timerOfAB ab, .tmRsv10 ab, 10), (timerOfAB ab, .tmRsv11 ab, 11), (timerOfAB ab, .tmRsv12 ab, 12),
      (timerOfAB ab, .tmRsv13 ab, 13), (timerOfAB ab, .tmRsv14 ab, 14), (timerOfAB ab, .tmRsv15 ab, 15),
      (timerOfCD cd, .tmStopCd cd, 0)] →
    let tm := timerGet s.mfp id
    let frozen (c : Byte) (r : Nat) : State := scheduled
      { s with mfp := timerPut s.mfp id { tm with ctrl := m, cnt := c, res := r } } (timerSlot id) none
    ((∀ q, timerClass tm.ctrl ≠ .delay q) → exec i s = .next (frozen tm.cnt tm.res)) ∧
    (∀ q due, timerClass tm.ctrl = .delay q → (s.slot (timerSlot id)).due = some due → s.sched.now < due →
      let left := due - s.sched.now
      let c := (left + q - 1) / q
      exec i s = .next (frozen (BitVec.ofNat 8 c) (left - (c - 1) * q)))

/-- The direction codes of the DMA engine: the direction already held is written again without effect, a change
resets the engine and lets its line fall (R124, R381, R382, R390, R391). The resolution, frequency, rate and sound
codes write their field and nothing else but the mode-change record and the drain's slot (R125, R126, R127, R446,
R447, R449, R457, R458). -/
def Obligations.DirectionPictureAndSoundCodes : Prop :=
  (∀ s : State,
    let turned (mode : Word) (idx : Nat) : State := lineMoved
      { s with dma := { Dma.reset with mode := mode, addr := s.dma.addr, idx := idx } } s.cfg.dmaGpio false
    (s.dma.mode.getLsbD 8 = false →
      exec .dmaRead s = .next s ∧ exec .dmaWrite s = .next (turned (s.dma.mode ||| 0x0100) 16)) ∧
    (s.dma.mode.getLsbD 8 = true →
      exec .dmaWrite s = .next s ∧ exec .dmaRead s = .next (turned (s.dma.mode &&& 0xFEFF) 0))) ∧
  (∀ s : State,
    (∀ (i : Instr) (r : BitVec 2), (i, r) ∈ [(Instr.resLow, 0), (.resMed, 1), (.resHigh, 2), (.resRsv3, 3)] →
      ∃ x : Nat, (s.vid.lineStart ≤ s.sched.now → x = s.sched.now - s.vid.lineStart) ∧
      exec i s = .next (sinking { s with vid := { s.vid with shiftMode := r } } (.modeChange s.vid.line x r))) ∧
    (∀ (i : Instr) (f : BitVec 1), (i, f) ∈ [(Instr.freq60, 0), (.freq50, 1)] →
      exec i s = .next { s with vid := { s.vid with sync := f ++ s.vid.sync.extractLsb' 0 1 } }) ∧
    (∀ (i : Instr) (r : BitVec 2), (i, r) ∈ [(Instr.rate0, 0), (.rate1, 1), (.rate2, 2), (.rate3, 3)] →
      exec i s = .next { s with snd := { s.snd with rate := r } }) ∧
    (s.snd.en = false →
      exec .sndOff s = .next s ∧
      exec .sndOn s = .next (scheduled { s with snd := { s.snd with en := true } } .sndDrain
        (some (s.sched.now + samplePeriod s.cfg s.snd.rate)))) ∧
    (s.snd.en = true →
      exec .sndOn s = .next s ∧
      exec .sndOff s = .next (scheduled { s with snd := { s.snd with en := false } } .sndDrain none)))

/-! ### What holds of every instruction -/

/-- The reset state is well formed. -/
def Obligations.ResetIsWellFormed : Prop :=
  Inv State.reset ∧ PendingEnabled State.reset.mfp ∧ InServiceNeedsS State.reset.mfp

/-- Every step keeps the invariant: canonical RAM, hardwired and held bits, legal phase, FIFO index and byte
count, ownership with its burst, latched bounds that keep the constraints of R431. -/
def Obligations.StepKeepsWellFormed : Prop :=
  ∀ s t : State, Inv s → step s = .next t → Inv t

/-- Every instruction, in every state of a well-formed configuration, gives a next state: "hardware never throws,
it produces a defined next state" (60_exceptions.md, its opening; R480). -/
def Obligations.NothingStopsTheMachine : Prop :=
  ∀ (i : Instr) (s : State), s.cfg.wf = true → ∃ t, exec i s = .next t

/-- No instruction moves `now` back but RESET.C and RESTORE (R140, R501), and none changes the configuration. -/
def Obligations.TimeOnlyMovesForward : Prop :=
  ∀ (i : Instr) (s t : State), exec i s = .next t →
    t.cfg = s.cfg ∧ (i ≠ .resetC → (∀ d, i ≠ .restore d) → s.sched.now ≤ t.sched.now)

/-- RAM is changed by the CPU's writes, the blitter's and the DMA engine's transactions and RESET.C alone: every
other instruction leaves every byte as it reads. The blitter stores only in WRITE_DEST, two bytes at the remapped
DST_ADDR, and the DMA engine only from disk to memory, two bytes at the remapped `dma_addr` (R82, R229, R404). -/
def Obligations.OnlyStoresChangeRam : Prop :=
  (∀ (i : Instr) (s t : State), exec i s = .next t →
    (∀ a v, i ≠ .wrB a v) → (∀ a v, i ≠ .wrW a v) → i ≠ .blitPhase → i ≠ .dmaWord → i ≠ .resetC →
    SameRam s t) ∧
  (∀ s t : State,
    (exec .blitPhase s = .next t →
      SameRamOutside s t (remapAddr s.cfg (onBus s.cfg s.blit.dstAddr)).toNat 2 ∧
      (s.blit.phase ≠ phaseWriteDest → SameRam s t)) ∧
    (exec .dmaWord s = .next t →
      SameRamOutside s t (remapAddr s.cfg (onBus s.cfg s.dma.addr)).toNat 2 ∧
      (s.dma.mode.getLsbD 8 = true → SameRam s t)))

/-- A pending bit belongs to an enabled source, and a source is in service only with VR.S = 1: every instruction
but RESTORE, which loads what its dump holds, keeps both (R310, R314, R319, R340). -/
def Obligations.InterruptBitsStayConsistent : Prop :=
  ∀ (i : Instr) (s t : State), exec i s = .next t → (∀ d, i ≠ .restore d) →
    (PendingEnabled s.mfp → PendingEnabled t.mfp) ∧ (InServiceNeedsS s.mfp → InServiceNeedsS t.mfp)

/-- The blitter's line is its BUSY bit and the DMA engine's line says that sectors remain: every instruction but
RESTORE, and the narrow call SET_GPIO_BIT made by itself, keeps both (R214, R411). -/
def Obligations.DrivenLinesFollowTheirUnits : Prop :=
  ∀ (i : Instr) (s t : State), exec i s = .next t → s.cfg.blitGpio ≠ s.cfg.dmaGpio →
    (∀ d, i ≠ .restore d) → (∀ n v, i ≠ .setGpioBit n v) →
    (s.mfp.ext.getLsbD s.cfg.blitGpio.toNat = s.blit.busy → t.mfp.ext.getLsbD s.cfg.blitGpio.toNat = t.blit.busy) ∧
    (s.mfp.ext.getLsbD s.cfg.dmaGpio.toNat = (s.dma.sectorCount != 0) →
      t.mfp.ext.getLsbD s.cfg.dmaGpio.toNat = (t.dma.sectorCount != 0))

/-- The CPU's accesses at the offsets of a register bank, each one transaction with the ticks of that bank: a byte is
what the offset's register reads, or its write rule; an offset with no register reads 0xFF and ignores a write; a
word over one register byte and one such offset is the access of that byte; a word over the blitter's HOP and OP, or
CTRL and SKEW, is both, the lower offset first (R86 to R89, R114, R129, R169, R174). -/
def Obligations.BankAccessesByOffset : Prop :=
  ∀ (s : State) (a : Addr) (b : Bank) (o : Nat), cpuEnabled s = true →
    regionOf s.cfg (remapAddr s.cfg (onBus s.cfg a)) = .bank b o →
    let ticks := s.cfg.tBus + bankJam s.cfg b
    let read (t : State) (w : Width) (v : Word) : Host.Outcome State Fault Refusal := .next (reporting
      (transacted t .cpu (onBus s.cfg a) (onLatch s.cfg v) w .read ticks) (.data w v))
    let wrote (t : State) (w : Width) (v : Word) : Host.Outcome State Fault Refusal := .next
      (transacted t .cpu (onBus s.cfg a) (onLatch s.cfg v) w .write ticks)
    let lower := registerByte b o
    let upper := registerByte b (o + 1)
    (lower = true → exec (.rdB a) s = read (regReadByte s b o).2 .byte (byteToWord (regReadByte s b o).1)) ∧
    (lower = false → exec (.rdB a) s = read s .byte 0x00FF) ∧
    (∀ v : Byte,
      (lower = true → exec (.wrB a v) s = wrote (regWriteByte s b o v) .byte (byteToWord v)) ∧
      (lower = false → exec (.wrB a v) s = wrote s .byte (byteToWord v))) ∧
    (a.toNat % 2 = 0 → ∀ v : Word,
      (lower = false → upper = false →
        exec (.rdW a) s = read s .word 0xFFFF ∧ exec (.wrW a v) s = wrote s .word v) ∧
      (lower = false → upper = true →
        (let r := regReadByte s b (o + 1)
         exec (.rdW a) s = read r.2 .word (mkWord 0xFF r.1)) ∧
        exec (.wrW a v) s = wrote (regWriteByte s b (o + 1) (loByte v)) .word v) ∧
      (lower = true → upper = false →
        (let r := regReadByte s b o
         exec (.rdW a) s = read r.2 .word (mkWord r.1 0xFF)) ∧
        exec (.wrW a v) s = wrote (regWriteByte s b o (hiByte v)) .word v) ∧
      (b = .blit → o = 0x3A →
        exec (.rdW a) s = read s .word (0#6 ++ s.blit.hop ++ 0#4 ++ s.blit.op) ∧
        exec (.wrW a v) s = wrote { s with blit := { s.blit with
          hop := v.extractLsb' 8 2, op := v.extractLsb' 0 4 } } .word v) ∧
      (b = .blit → o = 0x3C →
        exec (.rdW a) s = read s .word (blitCtrl s.blit ++ blitSkewReg s.blit) ∧
        (let t := writeBlitCtrl s (hiByte v)
         exec (.wrW a v) s = wrote { t with blit := { t.blit with
           fxsr := v.getLsbD 7, rsv6 := v.getLsbD 6, skew := v.extractLsb' 0 4 } } .word v)) ∧
      (lower = true → upper = true → (b = .blit → o ≠ 0x3A ∧ o ≠ 0x3C) →
        exec (.rdW a) s = read (regReadWord s b o).2 .word (regReadWord s b o).1 ∧
        exec (.wrW a v) s = wrote (regWriteWord s b o v) .word v))
end

