-- ==== Sys2Proof/Laws/State.lean ====
section
/-! SUPPORT. One lemma per field of State per update, so that no later proof unfolds a record update, and the
same for the output streams. -/

namespace Sys2Proof.Machine

@[simp] theorem State.withSched_cfg (s : State) (x : Sched) : (s.withSched x).cfg = s.cfg := rfl
@[simp] theorem State.withSched_sched (s : State) (x : Sched) : (s.withSched x).sched = x := rfl
@[simp] theorem State.withSched_bus (s : State) (x : Sched) : (s.withSched x).bus = s.bus := rfl
@[simp] theorem State.withSched_owner (s : State) (x : Sched) : (s.withSched x).owner = s.owner := rfl
@[simp] theorem State.withSched_mem (s : State) (x : Sched) : (s.withSched x).mem = s.mem := rfl
@[simp] theorem State.withSched_blit (s : State) (x : Sched) : (s.withSched x).blit = s.blit := rfl
@[simp] theorem State.withSched_mfp (s : State) (x : Sched) : (s.withSched x).mfp = s.mfp := rfl
@[simp] theorem State.withSched_dma (s : State) (x : Sched) : (s.withSched x).dma = s.dma := rfl
@[simp] theorem State.withSched_vid (s : State) (x : Sched) : (s.withSched x).vid = s.vid := rfl
@[simp] theorem State.withSched_snd (s : State) (x : Sched) : (s.withSched x).snd = s.snd := rfl
@[simp] theorem State.withSched_env (s : State) (x : Sched) : (s.withSched x).env = s.env := rfl
@[simp] theorem State.withSched_out (s : State) (x : Sched) : (s.withSched x).out = s.out := rfl
@[simp] theorem State.withSched_inbox (s : State) (x : Sched) : (s.withSched x).inbox = s.inbox := rfl
@[simp] theorem State.withSched_slot (s : State) (x : Sched) (id : SlotId) : (s.withSched x).slot id = slotGet x.slots id := rfl
@[simp] theorem State.withSched_timer (s : State) (x : Sched) (id : TimerId) : (s.withSched x).timer id = s.timer id := rfl

@[simp] theorem State.withBus_cfg (s : State) (x : Bus) : (s.withBus x).cfg = s.cfg := rfl
@[simp] theorem State.withBus_sched (s : State) (x : Bus) : (s.withBus x).sched = s.sched := rfl
@[simp] theorem State.withBus_bus (s : State) (x : Bus) : (s.withBus x).bus = x := rfl
@[simp] theorem State.withBus_owner (s : State) (x : Bus) : (s.withBus x).owner = s.owner := rfl
@[simp] theorem State.withBus_mem (s : State) (x : Bus) : (s.withBus x).mem = s.mem := rfl
@[simp] theorem State.withBus_blit (s : State) (x : Bus) : (s.withBus x).blit = s.blit := rfl
@[simp] theorem State.withBus_mfp (s : State) (x : Bus) : (s.withBus x).mfp = s.mfp := rfl
@[simp] theorem State.withBus_dma (s : State) (x : Bus) : (s.withBus x).dma = s.dma := rfl
@[simp] theorem State.withBus_vid (s : State) (x : Bus) : (s.withBus x).vid = s.vid := rfl
@[simp] theorem State.withBus_snd (s : State) (x : Bus) : (s.withBus x).snd = s.snd := rfl
@[simp] theorem State.withBus_env (s : State) (x : Bus) : (s.withBus x).env = s.env := rfl
@[simp] theorem State.withBus_out (s : State) (x : Bus) : (s.withBus x).out = s.out := rfl
@[simp] theorem State.withBus_inbox (s : State) (x : Bus) : (s.withBus x).inbox = s.inbox := rfl
@[simp] theorem State.withBus_slot (s : State) (x : Bus) (id : SlotId) : (s.withBus x).slot id = s.slot id := rfl
@[simp] theorem State.withBus_timer (s : State) (x : Bus) (id : TimerId) : (s.withBus x).timer id = s.timer id := rfl

@[simp] theorem State.withOwner_cfg (s : State) (x : Master) : (s.withOwner x).cfg = s.cfg := rfl
@[simp] theorem State.withOwner_sched (s : State) (x : Master) : (s.withOwner x).sched = s.sched := rfl
@[simp] theorem State.withOwner_bus (s : State) (x : Master) : (s.withOwner x).bus = s.bus := rfl
@[simp] theorem State.withOwner_owner (s : State) (x : Master) : (s.withOwner x).owner = x := rfl
@[simp] theorem State.withOwner_mem (s : State) (x : Master) : (s.withOwner x).mem = s.mem := rfl
@[simp] theorem State.withOwner_blit (s : State) (x : Master) : (s.withOwner x).blit = s.blit := rfl
@[simp] theorem State.withOwner_mfp (s : State) (x : Master) : (s.withOwner x).mfp = s.mfp := rfl
@[simp] theorem State.withOwner_dma (s : State) (x : Master) : (s.withOwner x).dma = s.dma := rfl
@[simp] theorem State.withOwner_vid (s : State) (x : Master) : (s.withOwner x).vid = s.vid := rfl
@[simp] theorem State.withOwner_snd (s : State) (x : Master) : (s.withOwner x).snd = s.snd := rfl
@[simp] theorem State.withOwner_env (s : State) (x : Master) : (s.withOwner x).env = s.env := rfl
@[simp] theorem State.withOwner_out (s : State) (x : Master) : (s.withOwner x).out = s.out := rfl
@[simp] theorem State.withOwner_inbox (s : State) (x : Master) : (s.withOwner x).inbox = s.inbox := rfl
@[simp] theorem State.withOwner_slot (s : State) (x : Master) (id : SlotId) : (s.withOwner x).slot id = s.slot id := rfl
@[simp] theorem State.withOwner_timer (s : State) (x : Master) (id : TimerId) : (s.withOwner x).timer id = s.timer id := rfl

@[simp] theorem State.withMem_cfg (s : State) (x : Memory) : (s.withMem x).cfg = s.cfg := rfl
@[simp] theorem State.withMem_sched (s : State) (x : Memory) : (s.withMem x).sched = s.sched := rfl
@[simp] theorem State.withMem_bus (s : State) (x : Memory) : (s.withMem x).bus = s.bus := rfl
@[simp] theorem State.withMem_owner (s : State) (x : Memory) : (s.withMem x).owner = s.owner := rfl
@[simp] theorem State.withMem_mem (s : State) (x : Memory) : (s.withMem x).mem = x := rfl
@[simp] theorem State.withMem_blit (s : State) (x : Memory) : (s.withMem x).blit = s.blit := rfl
@[simp] theorem State.withMem_mfp (s : State) (x : Memory) : (s.withMem x).mfp = s.mfp := rfl
@[simp] theorem State.withMem_dma (s : State) (x : Memory) : (s.withMem x).dma = s.dma := rfl
@[simp] theorem State.withMem_vid (s : State) (x : Memory) : (s.withMem x).vid = s.vid := rfl
@[simp] theorem State.withMem_snd (s : State) (x : Memory) : (s.withMem x).snd = s.snd := rfl
@[simp] theorem State.withMem_env (s : State) (x : Memory) : (s.withMem x).env = s.env := rfl
@[simp] theorem State.withMem_out (s : State) (x : Memory) : (s.withMem x).out = s.out := rfl
@[simp] theorem State.withMem_inbox (s : State) (x : Memory) : (s.withMem x).inbox = s.inbox := rfl
@[simp] theorem State.withMem_slot (s : State) (x : Memory) (id : SlotId) : (s.withMem x).slot id = s.slot id := rfl
@[simp] theorem State.withMem_timer (s : State) (x : Memory) (id : TimerId) : (s.withMem x).timer id = s.timer id := rfl

@[simp] theorem State.withBlit_cfg (s : State) (x : Blit) : (s.withBlit x).cfg = s.cfg := rfl
@[simp] theorem State.withBlit_sched (s : State) (x : Blit) : (s.withBlit x).sched = s.sched := rfl
@[simp] theorem State.withBlit_bus (s : State) (x : Blit) : (s.withBlit x).bus = s.bus := rfl
@[simp] theorem State.withBlit_owner (s : State) (x : Blit) : (s.withBlit x).owner = s.owner := rfl
@[simp] theorem State.withBlit_mem (s : State) (x : Blit) : (s.withBlit x).mem = s.mem := rfl
@[simp] theorem State.withBlit_blit (s : State) (x : Blit) : (s.withBlit x).blit = x := rfl
@[simp] theorem State.withBlit_mfp (s : State) (x : Blit) : (s.withBlit x).mfp = s.mfp := rfl
@[simp] theorem State.withBlit_dma (s : State) (x : Blit) : (s.withBlit x).dma = s.dma := rfl
@[simp] theorem State.withBlit_vid (s : State) (x : Blit) : (s.withBlit x).vid = s.vid := rfl
@[simp] theorem State.withBlit_snd (s : State) (x : Blit) : (s.withBlit x).snd = s.snd := rfl
@[simp] theorem State.withBlit_env (s : State) (x : Blit) : (s.withBlit x).env = s.env := rfl
@[simp] theorem State.withBlit_out (s : State) (x : Blit) : (s.withBlit x).out = s.out := rfl
@[simp] theorem State.withBlit_inbox (s : State) (x : Blit) : (s.withBlit x).inbox = s.inbox := rfl
@[simp] theorem State.withBlit_slot (s : State) (x : Blit) (id : SlotId) : (s.withBlit x).slot id = s.slot id := rfl
@[simp] theorem State.withBlit_timer (s : State) (x : Blit) (id : TimerId) : (s.withBlit x).timer id = s.timer id := rfl

@[simp] theorem State.withMfp_cfg (s : State) (x : Mfp) : (s.withMfp x).cfg = s.cfg := rfl
@[simp] theorem State.withMfp_sched (s : State) (x : Mfp) : (s.withMfp x).sched = s.sched := rfl
@[simp] theorem State.withMfp_bus (s : State) (x : Mfp) : (s.withMfp x).bus = s.bus := rfl
@[simp] theorem State.withMfp_owner (s : State) (x : Mfp) : (s.withMfp x).owner = s.owner := rfl
@[simp] theorem State.withMfp_mem (s : State) (x : Mfp) : (s.withMfp x).mem = s.mem := rfl
@[simp] theorem State.withMfp_blit (s : State) (x : Mfp) : (s.withMfp x).blit = s.blit := rfl
@[simp] theorem State.withMfp_mfp (s : State) (x : Mfp) : (s.withMfp x).mfp = x := rfl
@[simp] theorem State.withMfp_dma (s : State) (x : Mfp) : (s.withMfp x).dma = s.dma := rfl
@[simp] theorem State.withMfp_vid (s : State) (x : Mfp) : (s.withMfp x).vid = s.vid := rfl
@[simp] theorem State.withMfp_snd (s : State) (x : Mfp) : (s.withMfp x).snd = s.snd := rfl
@[simp] theorem State.withMfp_env (s : State) (x : Mfp) : (s.withMfp x).env = s.env := rfl
@[simp] theorem State.withMfp_out (s : State) (x : Mfp) : (s.withMfp x).out = s.out := rfl
@[simp] theorem State.withMfp_inbox (s : State) (x : Mfp) : (s.withMfp x).inbox = s.inbox := rfl
@[simp] theorem State.withMfp_slot (s : State) (x : Mfp) (id : SlotId) : (s.withMfp x).slot id = s.slot id := rfl
@[simp] theorem State.withMfp_timer (s : State) (x : Mfp) (id : TimerId) : (s.withMfp x).timer id = timerGet x id := rfl

@[simp] theorem State.withDma_cfg (s : State) (x : Dma) : (s.withDma x).cfg = s.cfg := rfl
@[simp] theorem State.withDma_sched (s : State) (x : Dma) : (s.withDma x).sched = s.sched := rfl
@[simp] theorem State.withDma_bus (s : State) (x : Dma) : (s.withDma x).bus = s.bus := rfl
@[simp] theorem State.withDma_owner (s : State) (x : Dma) : (s.withDma x).owner = s.owner := rfl
@[simp] theorem State.withDma_mem (s : State) (x : Dma) : (s.withDma x).mem = s.mem := rfl
@[simp] theorem State.withDma_blit (s : State) (x : Dma) : (s.withDma x).blit = s.blit := rfl
@[simp] theorem State.withDma_mfp (s : State) (x : Dma) : (s.withDma x).mfp = s.mfp := rfl
@[simp] theorem State.withDma_dma (s : State) (x : Dma) : (s.withDma x).dma = x := rfl
@[simp] theorem State.withDma_vid (s : State) (x : Dma) : (s.withDma x).vid = s.vid := rfl
@[simp] theorem State.withDma_snd (s : State) (x : Dma) : (s.withDma x).snd = s.snd := rfl
@[simp] theorem State.withDma_env (s : State) (x : Dma) : (s.withDma x).env = s.env := rfl
@[simp] theorem State.withDma_out (s : State) (x : Dma) : (s.withDma x).out = s.out := rfl
@[simp] theorem State.withDma_inbox (s : State) (x : Dma) : (s.withDma x).inbox = s.inbox := rfl
@[simp] theorem State.withDma_slot (s : State) (x : Dma) (id : SlotId) : (s.withDma x).slot id = s.slot id := rfl
@[simp] theorem State.withDma_timer (s : State) (x : Dma) (id : TimerId) : (s.withDma x).timer id = s.timer id := rfl

@[simp] theorem State.withVid_cfg (s : State) (x : Vid) : (s.withVid x).cfg = s.cfg := rfl
@[simp] theorem State.withVid_sched (s : State) (x : Vid) : (s.withVid x).sched = s.sched := rfl
@[simp] theorem State.withVid_bus (s : State) (x : Vid) : (s.withVid x).bus = s.bus := rfl
@[simp] theorem State.withVid_owner (s : State) (x : Vid) : (s.withVid x).owner = s.owner := rfl
@[simp] theorem State.withVid_mem (s : State) (x : Vid) : (s.withVid x).mem = s.mem := rfl
@[simp] theorem State.withVid_blit (s : State) (x : Vid) : (s.withVid x).blit = s.blit := rfl
@[simp] theorem State.withVid_mfp (s : State) (x : Vid) : (s.withVid x).mfp = s.mfp := rfl
@[simp] theorem State.withVid_dma (s : State) (x : Vid) : (s.withVid x).dma = s.dma := rfl
@[simp] theorem State.withVid_vid (s : State) (x : Vid) : (s.withVid x).vid = x := rfl
@[simp] theorem State.withVid_snd (s : State) (x : Vid) : (s.withVid x).snd = s.snd := rfl
@[simp] theorem State.withVid_env (s : State) (x : Vid) : (s.withVid x).env = s.env := rfl
@[simp] theorem State.withVid_out (s : State) (x : Vid) : (s.withVid x).out = s.out := rfl
@[simp] theorem State.withVid_inbox (s : State) (x : Vid) : (s.withVid x).inbox = s.inbox := rfl
@[simp] theorem State.withVid_slot (s : State) (x : Vid) (id : SlotId) : (s.withVid x).slot id = s.slot id := rfl
@[simp] theorem State.withVid_timer (s : State) (x : Vid) (id : TimerId) : (s.withVid x).timer id = s.timer id := rfl

@[simp] theorem State.withSnd_cfg (s : State) (x : Snd) : (s.withSnd x).cfg = s.cfg := rfl
@[simp] theorem State.withSnd_sched (s : State) (x : Snd) : (s.withSnd x).sched = s.sched := rfl
@[simp] theorem State.withSnd_bus (s : State) (x : Snd) : (s.withSnd x).bus = s.bus := rfl
@[simp] theorem State.withSnd_owner (s : State) (x : Snd) : (s.withSnd x).owner = s.owner := rfl
@[simp] theorem State.withSnd_mem (s : State) (x : Snd) : (s.withSnd x).mem = s.mem := rfl
@[simp] theorem State.withSnd_blit (s : State) (x : Snd) : (s.withSnd x).blit = s.blit := rfl
@[simp] theorem State.withSnd_mfp (s : State) (x : Snd) : (s.withSnd x).mfp = s.mfp := rfl
@[simp] theorem State.withSnd_dma (s : State) (x : Snd) : (s.withSnd x).dma = s.dma := rfl
@[simp] theorem State.withSnd_vid (s : State) (x : Snd) : (s.withSnd x).vid = s.vid := rfl
@[simp] theorem State.withSnd_snd (s : State) (x : Snd) : (s.withSnd x).snd = x := rfl
@[simp] theorem State.withSnd_env (s : State) (x : Snd) : (s.withSnd x).env = s.env := rfl
@[simp] theorem State.withSnd_out (s : State) (x : Snd) : (s.withSnd x).out = s.out := rfl
@[simp] theorem State.withSnd_inbox (s : State) (x : Snd) : (s.withSnd x).inbox = s.inbox := rfl
@[simp] theorem State.withSnd_slot (s : State) (x : Snd) (id : SlotId) : (s.withSnd x).slot id = s.slot id := rfl
@[simp] theorem State.withSnd_timer (s : State) (x : Snd) (id : TimerId) : (s.withSnd x).timer id = s.timer id := rfl

@[simp] theorem State.withEnv_cfg (s : State) (x : Env) : (s.withEnv x).cfg = s.cfg := rfl
@[simp] theorem State.withEnv_sched (s : State) (x : Env) : (s.withEnv x).sched = s.sched := rfl
@[simp] theorem State.withEnv_bus (s : State) (x : Env) : (s.withEnv x).bus = s.bus := rfl
@[simp] theorem State.withEnv_owner (s : State) (x : Env) : (s.withEnv x).owner = s.owner := rfl
@[simp] theorem State.withEnv_mem (s : State) (x : Env) : (s.withEnv x).mem = s.mem := rfl
@[simp] theorem State.withEnv_blit (s : State) (x : Env) : (s.withEnv x).blit = s.blit := rfl
@[simp] theorem State.withEnv_mfp (s : State) (x : Env) : (s.withEnv x).mfp = s.mfp := rfl
@[simp] theorem State.withEnv_dma (s : State) (x : Env) : (s.withEnv x).dma = s.dma := rfl
@[simp] theorem State.withEnv_vid (s : State) (x : Env) : (s.withEnv x).vid = s.vid := rfl
@[simp] theorem State.withEnv_snd (s : State) (x : Env) : (s.withEnv x).snd = s.snd := rfl
@[simp] theorem State.withEnv_env (s : State) (x : Env) : (s.withEnv x).env = x := rfl
@[simp] theorem State.withEnv_out (s : State) (x : Env) : (s.withEnv x).out = s.out := rfl
@[simp] theorem State.withEnv_inbox (s : State) (x : Env) : (s.withEnv x).inbox = s.inbox := rfl
@[simp] theorem State.withEnv_slot (s : State) (x : Env) (id : SlotId) : (s.withEnv x).slot id = s.slot id := rfl
@[simp] theorem State.withEnv_timer (s : State) (x : Env) (id : TimerId) : (s.withEnv x).timer id = s.timer id := rfl

@[simp] theorem State.withOut_cfg (s : State) (x : Out) : (s.withOut x).cfg = s.cfg := rfl
@[simp] theorem State.withOut_sched (s : State) (x : Out) : (s.withOut x).sched = s.sched := rfl
@[simp] theorem State.withOut_bus (s : State) (x : Out) : (s.withOut x).bus = s.bus := rfl
@[simp] theorem State.withOut_owner (s : State) (x : Out) : (s.withOut x).owner = s.owner := rfl
@[simp] theorem State.withOut_mem (s : State) (x : Out) : (s.withOut x).mem = s.mem := rfl
@[simp] theorem State.withOut_blit (s : State) (x : Out) : (s.withOut x).blit = s.blit := rfl
@[simp] theorem State.withOut_mfp (s : State) (x : Out) : (s.withOut x).mfp = s.mfp := rfl
@[simp] theorem State.withOut_dma (s : State) (x : Out) : (s.withOut x).dma = s.dma := rfl
@[simp] theorem State.withOut_vid (s : State) (x : Out) : (s.withOut x).vid = s.vid := rfl
@[simp] theorem State.withOut_snd (s : State) (x : Out) : (s.withOut x).snd = s.snd := rfl
@[simp] theorem State.withOut_env (s : State) (x : Out) : (s.withOut x).env = s.env := rfl
@[simp] theorem State.withOut_out (s : State) (x : Out) : (s.withOut x).out = x := rfl
@[simp] theorem State.withOut_inbox (s : State) (x : Out) : (s.withOut x).inbox = s.inbox := rfl
@[simp] theorem State.withOut_slot (s : State) (x : Out) (id : SlotId) : (s.withOut x).slot id = s.slot id := rfl
@[simp] theorem State.withOut_timer (s : State) (x : Out) (id : TimerId) : (s.withOut x).timer id = s.timer id := rfl

@[simp] theorem State.withInbox_cfg (s : State) (x : List Request) : (s.withInbox x).cfg = s.cfg := rfl
@[simp] theorem State.withInbox_sched (s : State) (x : List Request) : (s.withInbox x).sched = s.sched := rfl
@[simp] theorem State.withInbox_bus (s : State) (x : List Request) : (s.withInbox x).bus = s.bus := rfl
@[simp] theorem State.withInbox_owner (s : State) (x : List Request) : (s.withInbox x).owner = s.owner := rfl
@[simp] theorem State.withInbox_mem (s : State) (x : List Request) : (s.withInbox x).mem = s.mem := rfl
@[simp] theorem State.withInbox_blit (s : State) (x : List Request) : (s.withInbox x).blit = s.blit := rfl
@[simp] theorem State.withInbox_mfp (s : State) (x : List Request) : (s.withInbox x).mfp = s.mfp := rfl
@[simp] theorem State.withInbox_dma (s : State) (x : List Request) : (s.withInbox x).dma = s.dma := rfl
@[simp] theorem State.withInbox_vid (s : State) (x : List Request) : (s.withInbox x).vid = s.vid := rfl
@[simp] theorem State.withInbox_snd (s : State) (x : List Request) : (s.withInbox x).snd = s.snd := rfl
@[simp] theorem State.withInbox_env (s : State) (x : List Request) : (s.withInbox x).env = s.env := rfl
@[simp] theorem State.withInbox_out (s : State) (x : List Request) : (s.withInbox x).out = s.out := rfl
@[simp] theorem State.withInbox_inbox (s : State) (x : List Request) : (s.withInbox x).inbox = x := rfl
@[simp] theorem State.withInbox_slot (s : State) (x : List Request) (id : SlotId) : (s.withInbox x).slot id = s.slot id := rfl
@[simp] theorem State.withInbox_timer (s : State) (x : List Request) (id : TimerId) : (s.withInbox x).timer id = s.timer id := rfl

@[simp] theorem emitTrace_cfg (s : State) (x : TraceRec) : (emitTrace s x).cfg = s.cfg := rfl
@[simp] theorem emitTrace_sched (s : State) (x : TraceRec) : (emitTrace s x).sched = s.sched := rfl
@[simp] theorem emitTrace_bus (s : State) (x : TraceRec) : (emitTrace s x).bus = s.bus := rfl
@[simp] theorem emitTrace_owner (s : State) (x : TraceRec) : (emitTrace s x).owner = s.owner := rfl
@[simp] theorem emitTrace_mem (s : State) (x : TraceRec) : (emitTrace s x).mem = s.mem := rfl
@[simp] theorem emitTrace_blit (s : State) (x : TraceRec) : (emitTrace s x).blit = s.blit := rfl
@[simp] theorem emitTrace_mfp (s : State) (x : TraceRec) : (emitTrace s x).mfp = s.mfp := rfl
@[simp] theorem emitTrace_dma (s : State) (x : TraceRec) : (emitTrace s x).dma = s.dma := rfl
@[simp] theorem emitTrace_vid (s : State) (x : TraceRec) : (emitTrace s x).vid = s.vid := rfl
@[simp] theorem emitTrace_snd (s : State) (x : TraceRec) : (emitTrace s x).snd = s.snd := rfl
@[simp] theorem emitTrace_env (s : State) (x : TraceRec) : (emitTrace s x).env = s.env := rfl
@[simp] theorem emitTrace_inbox (s : State) (x : TraceRec) : (emitTrace s x).inbox = s.inbox := rfl
@[simp] theorem emitTrace_out_trace (s : State) (x : TraceRec) : (emitTrace s x).out.trace = s.out.trace ++ [(s.sched.now, x)] := rfl
@[simp] theorem emitTrace_out_video (s : State) (x : TraceRec) : (emitTrace s x).out.video = s.out.video := rfl
@[simp] theorem emitTrace_out_samples (s : State) (x : TraceRec) : (emitTrace s x).out.samples = s.out.samples := rfl
@[simp] theorem emitTrace_out_devices (s : State) (x : TraceRec) : (emitTrace s x).out.devices = s.out.devices := rfl
@[simp] theorem emitTrace_out_reports (s : State) (x : TraceRec) : (emitTrace s x).out.reports = s.out.reports := rfl

@[simp] theorem emitVideo_cfg (s : State) (x : VideoRec) : (emitVideo s x).cfg = s.cfg := rfl
@[simp] theorem emitVideo_sched (s : State) (x : VideoRec) : (emitVideo s x).sched = s.sched := rfl
@[simp] theorem emitVideo_bus (s : State) (x : VideoRec) : (emitVideo s x).bus = s.bus := rfl
@[simp] theorem emitVideo_owner (s : State) (x : VideoRec) : (emitVideo s x).owner = s.owner := rfl
@[simp] theorem emitVideo_mem (s : State) (x : VideoRec) : (emitVideo s x).mem = s.mem := rfl
@[simp] theorem emitVideo_blit (s : State) (x : VideoRec) : (emitVideo s x).blit = s.blit := rfl
@[simp] theorem emitVideo_mfp (s : State) (x : VideoRec) : (emitVideo s x).mfp = s.mfp := rfl
@[simp] theorem emitVideo_dma (s : State) (x : VideoRec) : (emitVideo s x).dma = s.dma := rfl
@[simp] theorem emitVideo_vid (s : State) (x : VideoRec) : (emitVideo s x).vid = s.vid := rfl
@[simp] theorem emitVideo_snd (s : State) (x : VideoRec) : (emitVideo s x).snd = s.snd := rfl
@[simp] theorem emitVideo_env (s : State) (x : VideoRec) : (emitVideo s x).env = s.env := rfl
@[simp] theorem emitVideo_inbox (s : State) (x : VideoRec) : (emitVideo s x).inbox = s.inbox := rfl
@[simp] theorem emitVideo_out_trace (s : State) (x : VideoRec) : (emitVideo s x).out.trace = s.out.trace := rfl
@[simp] theorem emitVideo_out_video (s : State) (x : VideoRec) : (emitVideo s x).out.video = s.out.video ++ [(scanPtr s, x)] := rfl
@[simp] theorem emitVideo_out_samples (s : State) (x : VideoRec) : (emitVideo s x).out.samples = s.out.samples := rfl
@[simp] theorem emitVideo_out_devices (s : State) (x : VideoRec) : (emitVideo s x).out.devices = s.out.devices := rfl
@[simp] theorem emitVideo_out_reports (s : State) (x : VideoRec) : (emitVideo s x).out.reports = s.out.reports := rfl

@[simp] theorem emitSample_cfg (s : State) (x : Word) : (emitSample s x).cfg = s.cfg := rfl
@[simp] theorem emitSample_sched (s : State) (x : Word) : (emitSample s x).sched = s.sched := rfl
@[simp] theorem emitSample_bus (s : State) (x : Word) : (emitSample s x).bus = s.bus := rfl
@[simp] theorem emitSample_owner (s : State) (x : Word) : (emitSample s x).owner = s.owner := rfl
@[simp] theorem emitSample_mem (s : State) (x : Word) : (emitSample s x).mem = s.mem := rfl
@[simp] theorem emitSample_blit (s : State) (x : Word) : (emitSample s x).blit = s.blit := rfl
@[simp] theorem emitSample_mfp (s : State) (x : Word) : (emitSample s x).mfp = s.mfp := rfl
@[simp] theorem emitSample_dma (s : State) (x : Word) : (emitSample s x).dma = s.dma := rfl
@[simp] theorem emitSample_vid (s : State) (x : Word) : (emitSample s x).vid = s.vid := rfl
@[simp] theorem emitSample_snd (s : State) (x : Word) : (emitSample s x).snd = s.snd := rfl
@[simp] theorem emitSample_env (s : State) (x : Word) : (emitSample s x).env = s.env := rfl
@[simp] theorem emitSample_inbox (s : State) (x : Word) : (emitSample s x).inbox = s.inbox := rfl
@[simp] theorem emitSample_out_trace (s : State) (x : Word) : (emitSample s x).out.trace = s.out.trace := rfl
@[simp] theorem emitSample_out_video (s : State) (x : Word) : (emitSample s x).out.video = s.out.video := rfl
@[simp] theorem emitSample_out_samples (s : State) (x : Word) : (emitSample s x).out.samples = s.out.samples ++ [x] := rfl
@[simp] theorem emitSample_out_devices (s : State) (x : Word) : (emitSample s x).out.devices = s.out.devices := rfl
@[simp] theorem emitSample_out_reports (s : State) (x : Word) : (emitSample s x).out.reports = s.out.reports := rfl

@[simp] theorem emitDevice_cfg (s : State) (x : DeviceRec) : (emitDevice s x).cfg = s.cfg := rfl
@[simp] theorem emitDevice_sched (s : State) (x : DeviceRec) : (emitDevice s x).sched = s.sched := rfl
@[simp] theorem emitDevice_bus (s : State) (x : DeviceRec) : (emitDevice s x).bus = s.bus := rfl
@[simp] theorem emitDevice_owner (s : State) (x : DeviceRec) : (emitDevice s x).owner = s.owner := rfl
@[simp] theorem emitDevice_mem (s : State) (x : DeviceRec) : (emitDevice s x).mem = s.mem := rfl
@[simp] theorem emitDevice_blit (s : State) (x : DeviceRec) : (emitDevice s x).blit = s.blit := rfl
@[simp] theorem emitDevice_mfp (s : State) (x : DeviceRec) : (emitDevice s x).mfp = s.mfp := rfl
@[simp] theorem emitDevice_dma (s : State) (x : DeviceRec) : (emitDevice s x).dma = s.dma := rfl
@[simp] theorem emitDevice_vid (s : State) (x : DeviceRec) : (emitDevice s x).vid = s.vid := rfl
@[simp] theorem emitDevice_snd (s : State) (x : DeviceRec) : (emitDevice s x).snd = s.snd := rfl
@[simp] theorem emitDevice_env (s : State) (x : DeviceRec) : (emitDevice s x).env = s.env := rfl
@[simp] theorem emitDevice_inbox (s : State) (x : DeviceRec) : (emitDevice s x).inbox = s.inbox := rfl
@[simp] theorem emitDevice_out_trace (s : State) (x : DeviceRec) : (emitDevice s x).out.trace = s.out.trace := rfl
@[simp] theorem emitDevice_out_video (s : State) (x : DeviceRec) : (emitDevice s x).out.video = s.out.video := rfl
@[simp] theorem emitDevice_out_samples (s : State) (x : DeviceRec) : (emitDevice s x).out.samples = s.out.samples := rfl
@[simp] theorem emitDevice_out_devices (s : State) (x : DeviceRec) : (emitDevice s x).out.devices = s.out.devices ++ [x] := rfl
@[simp] theorem emitDevice_out_reports (s : State) (x : DeviceRec) : (emitDevice s x).out.reports = s.out.reports := rfl

@[simp] theorem emitReport_cfg (s : State) (x : Report) : (emitReport s x).cfg = s.cfg := rfl
@[simp] theorem emitReport_sched (s : State) (x : Report) : (emitReport s x).sched = s.sched := rfl
@[simp] theorem emitReport_bus (s : State) (x : Report) : (emitReport s x).bus = s.bus := rfl
@[simp] theorem emitReport_owner (s : State) (x : Report) : (emitReport s x).owner = s.owner := rfl
@[simp] theorem emitReport_mem (s : State) (x : Report) : (emitReport s x).mem = s.mem := rfl
@[simp] theorem emitReport_blit (s : State) (x : Report) : (emitReport s x).blit = s.blit := rfl
@[simp] theorem emitReport_mfp (s : State) (x : Report) : (emitReport s x).mfp = s.mfp := rfl
@[simp] theorem emitReport_dma (s : State) (x : Report) : (emitReport s x).dma = s.dma := rfl
@[simp] theorem emitReport_vid (s : State) (x : Report) : (emitReport s x).vid = s.vid := rfl
@[simp] theorem emitReport_snd (s : State) (x : Report) : (emitReport s x).snd = s.snd := rfl
@[simp] theorem emitReport_env (s : State) (x : Report) : (emitReport s x).env = s.env := rfl
@[simp] theorem emitReport_inbox (s : State) (x : Report) : (emitReport s x).inbox = s.inbox := rfl
@[simp] theorem emitReport_out_trace (s : State) (x : Report) : (emitReport s x).out.trace = s.out.trace := rfl
@[simp] theorem emitReport_out_video (s : State) (x : Report) : (emitReport s x).out.video = s.out.video := rfl
@[simp] theorem emitReport_out_samples (s : State) (x : Report) : (emitReport s x).out.samples = s.out.samples := rfl
@[simp] theorem emitReport_out_devices (s : State) (x : Report) : (emitReport s x).out.devices = s.out.devices := rfl
@[simp] theorem emitReport_out_reports (s : State) (x : Report) : (emitReport s x).out.reports = s.out.reports ++ [x] := rfl

end Sys2Proof.Machine
end

