-- ==== Sys2Proof/Laws/Memory.lean ====
section
/-! SUPPORT. The laws of RAM: a read after a write, every other address left alone, and the canonical form kept
by every operation that writes (entry 10). -/

namespace Sys2Proof.Machine

/-- Reading back the byte just written, in any list. -/
theorem Memory.get_put_same (m : Memory) (a : Nat) (v : Byte) : (Memory.put m a v).get a = some v := by
  induction m with
  | nil => simp [Memory.put, Memory.get]
  | cons c rest ih =>
    obtain ⟨x, b⟩ := c
    unfold Memory.put
    split
    · simp [Memory.get]
    · split
      · simp [Memory.get]
      · rename_i h1 h2
        simp only [Memory.get, h1, h2, if_false, ih]

/-- A write leaves every other address alone, in any list. -/
theorem Memory.get_put_other (m : Memory) (a b : Nat) (v : Byte) (h : b ≠ a) :
    (Memory.put m a v).get b = Memory.get m b := by
  induction m with
  | nil => simp [Memory.put, Memory.get, Ne.symm h]
  | cons c rest ih =>
    obtain ⟨x, y⟩ := c
    unfold Memory.put
    split
    · rename_i h1
      subst h1
      simp [Memory.get, Ne.symm h]
    · split
      · rename_i h1 h2
        by_cases hb : b < a
        · have h3 : ¬ x = b := by omega
          have h4 : b < x := by omega
          simp [Memory.get, Ne.symm h, hb, h3, h4]
        · simp [Memory.get, Ne.symm h, hb]
      · simp only [Memory.get, ih]

/-- A write above a bound keeps every address above it, rising. -/
theorem Memory.wfAbove_put (m : Memory) (lo a : Nat) (v : Byte) (h : Memory.wfAbove lo m = true) (ha : lo < a) :
    Memory.wfAbove lo (Memory.put m a v) = true := by
  induction m generalizing lo with
  | nil => simp [Memory.put, Memory.wfAbove, ha]
  | cons c rest ih =>
    obtain ⟨x, b⟩ := c
    simp only [Memory.wfAbove, Bool.and_eq_true, decide_eq_true_eq] at h
    unfold Memory.put
    split
    · rename_i h1
      subst h1
      simp [Memory.wfAbove, h.1, h.2]
    · split
      · rename_i h1 h2
        simp [Memory.wfAbove, ha, h2, h.2]
      · rename_i h1 h2
        simp [Memory.wfAbove, h.1, ih x h.2 (by omega)]

/-- A write keeps the canonical form. -/
theorem Memory.wf_put (m : Memory) (a : Nat) (v : Byte) (h : Memory.wf m = true) :
    Memory.wf (Memory.put m a v) = true := by
  cases m with
  | nil => rfl
  | cons c rest =>
    obtain ⟨x, b⟩ := c
    simp only [Memory.wf] at h
    unfold Memory.put
    split
    · rename_i h1
      subst h1
      exact h
    · split
      · rename_i h1 h2
        simp [Memory.wf, Memory.wfAbove, h2, h]
      · rename_i h1 h2
        exact Memory.wfAbove_put rest x a v h (by omega)

/-- RAM at reset lists nothing, so it is canonical. -/
theorem reset_mem_wf : State.reset.mem.wf = true := rfl

@[simp] theorem ramPut_mem (s : State) (a : Nat) (v : Byte) : (ramPut s a v).mem = s.mem.put a v := rfl

@[simp] theorem ramPut_env (s : State) (a : Nat) (v : Byte) : (ramPut s a v).env = s.env := rfl

/-- A byte of RAM reads the same where memory and the count of cold resets are the same. -/
theorem ramByte_congr {s t : State} (hm : t.mem = s.mem) (hc : t.env.coldResets = s.env.coldResets) (a : Nat) :
    ramByte t a = ramByte s a := by
  unfold ramByte
  rw [hm, hc]

theorem ramByte_ramPut_same (s : State) (a : Nat) (v : Byte) : ramByte (ramPut s a v) a = v := by
  simp [ramByte, Memory.get_put_same]

theorem ramByte_ramPut_other (s : State) (a b : Nat) (v : Byte) (h : b ≠ a) :
    ramByte (ramPut s a v) b = ramByte s b := by
  simp [ramByte, Memory.get_put_other _ _ _ _ h]

/-- A word write stores its high byte at the address and its low byte above it, and nothing else. -/
theorem ramByte_ramPutWord (s : State) (a b : Nat) (v : Word) :
    ramByte (ramPutWord s a v) b = if b = a then hiByte v else if b = a + 1 then loByte v else ramByte s b := by
  unfold ramPutWord
  by_cases h1 : b = a + 1
  · subst h1
    rw [ramByte_ramPut_same]
    simp
  · rw [ramByte_ramPut_other _ _ _ _ h1]
    by_cases h2 : b = a
    · subst h2
      simp [ramByte_ramPut_same]
    · rw [ramByte_ramPut_other _ _ _ _ h2]
      simp [h1, h2]

/-- A word write keeps the canonical form. -/
theorem ramPutWord_wf (s : State) (a : Nat) (v : Word) (h : s.mem.wf = true) : (ramPutWord s a v).mem.wf = true :=
  Memory.wf_put _ _ _ (Memory.wf_put _ _ _ h)

end Sys2Proof.Machine
end

