-- ==== Sys2Proof/Laws/Ops.lean ====
section
/-! SUPPORT. One lemma per shared operation that says what it leaves, in the words of Safety.lean, and the
frames of the operations that touch one unit: cite these instead of unfolding. -/

namespace Sys2Proof.Machine

/-! ### Streams, scheduler, cost -/

theorem turnAway_eq (s : State) (why : Turned) : turnAway s why = reporting s (.turned why) := rfl

theorem emitReport_eq (s : State) (r : Report) : emitReport s r = reporting s r := rfl

theorem emitTrace_eq (s : State) (e : TraceRec) : emitTrace s e = tracing s e := rfl

theorem emitVideo_eq (s : State) (e : VideoRec) : emitVideo s e = sinking s e := rfl

theorem emitDevice_eq (s : State) (e : DeviceRec) : emitDevice s e = handed s e := rfl

theorem schedule_eq (s : State) (id : SlotId) (t : Option Nat) : schedule s id t = scheduled s id t := rfl

@[simp] theorem slotGet_slotPut_same (t : Slots) (id : SlotId) (x : Slot) : slotGet (slotPut t id x) id = x := by
  cases id <;> rfl

theorem slotGet_slotPut_other (t : Slots) (id other : SlotId) (x : Slot) (h : other ≠ id) :
    slotGet (slotPut t id x) other = slotGet t other := by
  cases id <;> cases other <;> first | rfl | exact absurd rfl h

@[simp] theorem timerGet_timerPut_same (m : Mfp) (id : TimerId) (x : Timer) : timerGet (timerPut m id x) id = x := by
  cases id <;> rfl

theorem timerGet_timerPut_other (m : Mfp) (id other : TimerId) (x : Timer) (h : other ≠ id) :
    timerGet (timerPut m id x) other = timerGet m other := by
  cases id <;> cases other <;> first | rfl | exact absurd rfl h

/-- `schedule` gives its slot the due time, a fresh `seq` and `one_shot`; the other slots and `now` stay. -/
theorem schedule_slot (s : State) (id x : SlotId) (t : Option Nat) :
    (schedule s id t).slot x = if x = id then ⟨t, s.sched.seqNext, true⟩ else s.slot x := by
  by_cases h : x = id
  · subst h
    simp [schedule]
  · simp only [schedule, State.withSched_slot, h, if_false]
    exact slotGet_slotPut_other _ _ _ _ h

@[simp] theorem schedule_now (s : State) (id : SlotId) (t : Option Nat) :
    (schedule s id t).sched.now = s.sched.now := rfl

/-- Clearing a slot sets its due time to `NEVER` and nothing else. -/
theorem clearSlot_slot (s : State) (id x : SlotId) :
    (clearSlot s id).slot x = if x = id then { s.slot id with due := none } else s.slot x := by
  by_cases h : x = id
  · subst h
    simp [clearSlot]
  · simp only [clearSlot, State.withSched_slot, h, if_false]
    exact slotGet_slotPut_other _ _ _ _ h

/-- The ticks of a transaction go to `now`, and to `cpu_idle` unless the CPU's. -/
theorem charge_eq (s : State) (u : Master) (c : Nat) :
    charge s u c = { s with
      sched := { s.sched with now := s.sched.now + c }
      bus := { s.bus with cpuIdle := s.bus.cpuIdle + (if u = .cpu then 0 else c) } } := by
  cases u <;> rfl

/-! ### Interrupt lines -/

/-- An occurrence of a source is lost, traced, or sets one pending bit. -/
theorem mfpEvent_eq (s : State) (src : BitVec 4) : mfpEvent s src = occurred s src := by
  unfold mfpEvent occurred
  cases s.mfp.ier.getLsbD src.toNat <;> cases s.mfp.ipr.getLsbD src.toNat <;> rfl

/-- An occurrence changes IPR or the trace, nothing else. -/
theorem mfpEvent_frame (s : State) (src : BitVec 4) :
    ∃ p tr, mfpEvent s src = { s with mfp := { s.mfp with ipr := p }, out := { s.out with trace := tr } } := by
  unfold mfpEvent
  split
  · split
    · exact ⟨s.mfp.ipr, _, rfl⟩
    · exact ⟨_, s.out.trace, rfl⟩
  · exact ⟨s.mfp.ipr, s.out.trace, rfl⟩

/-- An occurrence never sets the pending bit of a disabled source. -/
theorem mfpEvent_ipr (s : State) (src : BitVec 4) :
    (mfpEvent s src).mfp.ipr = s.mfp.ipr ∨
      (s.mfp.ier.getLsbD src.toNat = true ∧ (mfpEvent s src).mfp.ipr = putBit s.mfp.ipr src.toNat true) := by
  unfold mfpEvent
  split
  · split
    · exact .inl rfl
    · exact .inr ⟨by assumption, rfl⟩
  · exact .inl rfl

/-- A line moves to a level; the edge AER selects, on an input line, is an occurrence. -/
theorem setGpioBit_eq (s : State) (i : BitVec 3) (v : Bool) : setGpioBit s i v = lineMoved s i v := by
  unfold setGpioBit lineMoved lineEdge
  simp only [mfpEvent_eq]
  by_cases h : s.mfp.ext.getLsbD i.toNat = v
  · simp only [h, if_true, ne_eq, not_true_eq_false, false_and, if_false]
    rfl
  · by_cases h2 : s.mfp.ddr.getLsbD i.toNat = false
    · by_cases h3 : s.mfp.aer.getLsbD i.toNat = v
      · simp [h, h2, h3, State.withMfp]
      · have h4 : ¬ v = s.mfp.aer.getLsbD i.toNat := fun e => h3 e.symm
        simp [h, h2, h3, h4, State.withMfp]
    · simp [h, h2, State.withMfp]

/-- A line changes `ext`, IPR or the trace, nothing else. -/
theorem setGpioBit_frame (s : State) (i : BitVec 3) (v : Bool) :
    ∃ p tr, setGpioBit s i v = { s with
      mfp := { s.mfp with ext := putBit s.mfp.ext i.toNat v, ipr := p }, out := { s.out with trace := tr } } := by
  unfold setGpioBit lineEdge
  simp only
  split
  · exact ⟨s.mfp.ipr, s.out.trace, rfl⟩
  · split
    · obtain ⟨p, tr, h⟩ :=
        mfpEvent_frame (s.withMfp { s.mfp with ext := putBit s.mfp.ext i.toNat v }) (lineSource i)
      exact ⟨p, tr, h⟩
    · exact ⟨s.mfp.ipr, s.out.trace, rfl⟩

/-! ### Exceptions -/

/-- Taking a bus error: the report and the ticks. -/
theorem takeBusError_eq (s : State) (u : Master) (a : Addr) (d : Dir) :
    takeBusError s u a d = charge (reporting s (.busError u a d s.cfg.busErrorVector)) u s.cfg.tBerr := rfl

/-- Taking an interrupt: the pending bit, the in-service bit, the trace and the vector. -/
theorem takeInterrupt_eq (s : State) (src : BitVec 4) :
    takeInterrupt s src = reporting (tracing { s with mfp := { s.mfp with
        ipr := putBit s.mfp.ipr src.toNat false
        isr := if vrS s.mfp then putBit s.mfp.isr src.toNat true else s.mfp.isr } }
      (.dispatch src (vectorNumber s.mfp.vr src)))
      (.vectored (vectorNumber s.mfp.vr src) s.cfg.mfpIpl) := rfl

/-- The spurious answer: a trace record and a report. -/
theorem takeSpurious_eq (s : State) (l : BitVec 3) :
    takeSpurious s l = reporting (tracing s .dispatchSpurious) (.spurious s.cfg.spuriousVector l) := rfl

/-- Ending a service clears in-service bits and nothing else. -/
theorem endService_eq (s : State) (v : Word) :
    endService s v = { s with mfp := { s.mfp with isr := s.mfp.isr &&& v } } := rfl

/-! ### Transactions -/

/-- A read transaction that a device answers: the latches, the record, and the ticks. -/
theorem txRead_some {s s1 : State} {u : Master} {a p : Addr} {r : Region} {w : Width} {v : Word}
    (h : readRegion (s.withBus { s.bus with addrLatch := a }) p r w = (some v, s1.withBus { s1.bus with addrLatch := a })) :
    txRead s u a p r w = (some v, transacted s1 u a (onLatch s1.cfg v) w .read (txCost s1.cfg u r)) := by
  unfold txRead
  simp only [h]
  cases u <;> rfl

/-- A write transaction that a device takes. -/
theorem txWrite_some {s s1 : State} {u : Master} {a p : Addr} {r : Region} {w : Width} {v : Word}
    (h : writeRegion (s.withBus { s.bus with
        addrLatch := a, dataLatch := onLatch s.cfg v, lastTx := ⟨a, onLatch s.cfg v, w, .write, u⟩ }) p r w v =
      some (s1.withBus { s1.bus with
        addrLatch := a, dataLatch := onLatch s.cfg v, lastTx := ⟨a, onLatch s.cfg v, w, .write, u⟩ })) :
    txWrite s u a p r w v = transacted s1 u a (onLatch s.cfg v) w .write (txCost s1.cfg u r) := by
  unfold txWrite
  simp only [h]
  cases u <;> rfl

/-- A RAM read transaction. -/
theorem txRead_ram (s : State) (u : Master) (a p : Addr) :
    txRead s u a p .ram .byte =
      (some (byteToWord (ramByte s p.toNat)),
        transacted s u a (onLatch s.cfg (byteToWord (ramByte s p.toNat))) .byte .read s.cfg.tBus) ∧
    txRead s u a p .ram .word =
      (some (ramWord s p.toNat), transacted s u a (onLatch s.cfg (ramWord s p.toNat)) .word .read s.cfg.tBus) := by
  cases u <;> exact ⟨rfl, rfl⟩

/-- A word read transaction of a device. -/
theorem txRead_ext (s : State) (u : Master) (a p : Addr) :
    txRead s u a p .ext .word =
      (some (s.env.ext.headD (Config.extValue s.env.draws)),
        transacted (handed (tookExt s) (.extRead p .word)) u a
          (onLatch s.cfg (s.env.ext.headD (Config.extValue s.env.draws))) .word .read s.cfg.tBus) := by
  rcases s with ⟨_, _, _, _, _, _, _, _, _, _, ⟨_, _, ext, _, _⟩, _, _⟩
  cases ext <;> cases u <;> rfl

/-- A read transaction that meets a bus error. -/
theorem txRead_none (s : State) (u : Master) (a p : Addr) (w : Width) :
    txRead s u a p .none w = (none,
      reporting (transacted s u a s.bus.dataLatch w .read s.cfg.tBerr) (.busError u a .read s.cfg.busErrorVector)) := by
  cases u <;> rfl

/-- A RAM write transaction. -/
theorem txWrite_ram (s : State) (u : Master) (a p : Addr) (v : Word) :
    txWrite s u a p .ram .byte v =
      transacted { s with mem := s.mem.put p.toNat (loByte v) } u a (onLatch s.cfg v) .byte .write s.cfg.tBus ∧
    txWrite s u a p .ram .word v =
      transacted { s with mem := (s.mem.put p.toNat (hiByte v)).put (p.toNat + 1) (loByte v) }
        u a (onLatch s.cfg v) .word .write s.cfg.tBus := by
  cases u <;> exact ⟨rfl, rfl⟩

/-- A write transaction of a device. -/
theorem txWrite_ext (s : State) (u : Master) (a p : Addr) (w : Width) (v : Word) :
    txWrite s u a p .ext w v =
      transacted (handed s (.extWrite p w v)) u a (onLatch s.cfg v) w .write s.cfg.tBus := by
  cases u <;> rfl

/-- A write transaction that meets a bus error. -/
theorem txWrite_none (s : State) (u : Master) (a p : Addr) (w : Width) (v : Word) :
    txWrite s u a p .none w v =
      reporting (transacted s u a (onLatch s.cfg v) w .write s.cfg.tBerr)
        (.busError u a .write s.cfg.busErrorVector) := by
  cases u <;> rfl

/-- A CPU command runs where the step relation enables it. -/
theorem whenCpu_enabled {s : State} {f : State → State} (h : cpuEnabled s = true) : whenCpu s f = f s := by
  simp [whenCpu, h]

/-- A CPU command that is not enabled is turned away. -/
theorem whenCpu_stalled {s : State} {f : State → State} (h : cpuEnabled s = false) :
    whenCpu s f = reporting s (.turned .notEnabled) := by
  simp [whenCpu, h]
  rfl

/-- A command of the environment runs where no slot is due. -/
theorem whenEnvironment_enabled {s : State} {f : State → State} (h : fireEnabled s = false) :
    whenEnvironment s f = f s := by
  simp [whenEnvironment, h]

/-- An internal step runs where it is the one enabled. -/
theorem whenStep_enabled {s : State} {k : InternalStep} {f : State → State} (h : pendingStep s = some k) :
    whenStep s k f = f s := by
  simp [whenStep, h]

/-! ### Timers and lines of the units -/

/-- The live counter of a timer in no delay mode is the stored one. -/
theorem liveCounter_stored (s : State) (id : TimerId) (h : ∀ p, timerClass (s.timer id).ctrl ≠ .delay p) :
    liveCounter s id = ((s.timer id).cnt, (s.timer id).res) := by
  unfold liveCounter
  split
  · rename_i p hp
    exact absurd hp (h p)
  · rfl

/-- The live counter of a running timer splits the ticks left over the divider. -/
theorem liveCounter_running (s : State) (id : TimerId) (p d : Nat) (h : timerClass (s.timer id).ctrl = .delay p)
    (hd : (s.slot (timerSlot id)).due = some d) (hn : s.sched.now < d) :
    liveCounter s id = (BitVec.ofNat 8 (ceilDiv (d - s.sched.now) p),
      (d - s.sched.now) - (ceilDiv (d - s.sched.now) p - 1) * p) := by
  simp [liveCounter, h, hd, hn]

/-- Every divider of a delay mode is positive. -/
theorem timerClass_delay_pos (m : BitVec 4) (p : Nat) (h : timerClass m = .delay p) : 0 < p := by
  revert h
  unfold timerClass
  repeat' split
  all_goals
    intro h
    first
      | (injection h with h; omega)
      | cases h

/-- What `set_mode` does, by the class of the new mode and of the old. -/
theorem setMode_cases (s : State) (id : TimerId) (m : BitVec 4) :
    (∃ p, timerClass m = .delay p ∧ timerClass (s.timer id).ctrl = .delay p ∧
      setMode s id m = setTimer s id { s.timer id with ctrl := m }) ∨
    (∃ p, timerClass m = .delay p ∧ timerClass (s.timer id).ctrl ≠ .delay p ∧
      setMode s id m = startDelay s id m (timerValue (liveCounter s id).1) p) ∨
    ((∀ p, timerClass m ≠ .delay p) ∧ setMode s id m = freezeTimer s id m) := by
  unfold setMode
  split
  · rename_i p hp
    by_cases h : timerClass (s.timer id).ctrl = .delay p
    · exact .inl ⟨p, hp, h, by simp [h]⟩
    · exact .inr (.inl ⟨p, hp, h, by simp [h]⟩)
  · rename_i hp
    exact .inr (.inr ⟨fun p hc => hp p hc, rfl⟩)

/-- The DMA engine's line follows its sector count. -/
theorem lineUpdate_eq (s : State) : lineUpdate s = lineMoved s s.cfg.dmaGpio (s.dma.sectorCount != 0) :=
  setGpioBit_eq _ _ _

/-- A buffer swap changes which buffer is active, the index and the flag, nothing else. -/
theorem trySwap_cases (d : Dma) :
    (d.idx = 16 ∧ d.otherFull = dmaDir d ∧
      trySwap d = { d with active := 1 - d.active, idx := 0, otherFull := !dmaDir d }) ∨
    (¬ (d.idx = 16 ∧ d.otherFull = dmaDir d) ∧ trySwap d = d) := by
  unfold trySwap
  split
  · rename_i h
    exact .inl ⟨h.1, h.2, rfl⟩
  · rename_i h
    exact .inr ⟨h, rfl⟩

end Sys2Proof.Machine
end

