-- ==== Sys2Proof/Laws/Banks.lean ====
section
/-! SUPPORT. A register access and the arbiter's registers: no read and no write of a register reads or changes
them, so that a transaction with a register bank is one of the bank's rule and the latches (20_memory.md R86 to
R89, 41_bus_arbiter.md R170, R171), what a hole of a bank does, and what the transactions of Safety.lean's
`Fetched` and `Stored` leave. -/

namespace Sys2Proof.Machine

/-! ### The register rules leave the arbiter's registers alone -/

/-- The latches replaced in both arms of a choice. -/
theorem withBus_ite (c : Prop) [Decidable c] (a b : State) (x : Bus) :
    (if c then a else b).withBus x = if c then a.withBus x else b.withBus x := by
  split <;> rfl

theorem mfpEvent_withBus (s : State) (x : Bus) (src : BitVec 4) :
    mfpEvent (s.withBus x) src = (mfpEvent s src).withBus x := by
  unfold mfpEvent
  rw [withBus_ite, withBus_ite]
  rfl

theorem setGpioBit_withBus (s : State) (x : Bus) (i : BitVec 3) (v : Bool) :
    setGpioBit (s.withBus x) i v = (setGpioBit s i v).withBus x := by
  unfold setGpioBit lineEdge
  simp only
  rw [withBus_ite, withBus_ite, ← mfpEvent_withBus]
  rfl

theorem blitStart_withBus (s : State) (x : Bus) : blitStart (s.withBus x) = (blitStart s).withBus x :=
  congrArg requestBlit (setGpioBit_withBus
    (s.withBlit { s.blit with
      busy := true, done := false, windows := 0, phase := phaseIdle, timeout := s.cfg.blitSlice })
    x s.cfg.blitGpio true)

theorem blitAbort_withBus (s : State) (x : Bus) : blitAbort (s.withBus x) = (blitAbort s).withBus x :=
  setGpioBit_withBus
    (schedule (s.withBlit { s.blit with busy := false, request := false, phase := phaseIdle }) .blitResume none)
    x s.cfg.blitGpio false

theorem setMode_withBus (s : State) (x : Bus) (id : TimerId) (m : BitVec 4) :
    setMode (s.withBus x) id m = (setMode s id m).withBus x := by
  unfold setMode
  split
  · rw [withBus_ite]
    rfl
  · rfl

theorem readDmaData_withBus (s : State) (x : Bus) :
    readDmaData (s.withBus x) = ((readDmaData s).1, (readDmaData s).2.withBus x) := by
  unfold readDmaData drawCtrl
  rw [State.withBus_dma, State.withBus_env]
  cases dmaScSel s.dma
  · cases s.env.ctrl <;> rfl
  · rfl

/-- A read of a register gives the same value and leaves the same state whatever the latches hold. -/
theorem regRead_withBus (s : State) (x : Bus) (r : Reg) :
    regRead (s.withBus x) r = ((regRead s r).1, (regRead s r).2.withBus x) := by
  cases r
  case data => simp only [regRead, readDmaData_withBus]
  all_goals rfl

/-- A write of a register leaves the latches as they are, and depends on none of them. -/
theorem regWrite_withBus (s : State) (x : Bus) (r : Reg) (v : BitVec 32) :
    regWrite (s.withBus x) r v = (regWrite s r v).withBus x := by
  cases r <;> simp only [regWrite]
  case ctrl =>
    unfold writeBlitCtrl
    simp only
    rw [withBus_ite, withBus_ite, withBus_ite, ← blitStart_withBus, ← blitAbort_withBus]
    rfl
  case tacr => exact setMode_withBus _ _ _ _
  case tbcr => exact setMode_withBus _ _ _ _
  case tcdcr => simp only [writeTcdcr, setMode_withBus]
  case data =>
    unfold writeDmaData writeSectorCount lineUpdate
    simp only
    rw [withBus_ite, ← setGpioBit_withBus]
    rfl
  case mode =>
    unfold writeDmaMode engineReset lineUpdate
    simp only
    rw [withBus_ite, ← setGpioBit_withBus]
    rfl
  case sndCtrl =>
    unfold writeSndCtrl
    simp only
    rw [withBus_ite, withBus_ite]
    rfl
  all_goals first
    | rfl
    | (unfold writeTimerData; rw [withBus_ite]; rfl)

theorem regReadByte_withBus (s : State) (x : Bus) (b : Bank) (o : Nat) :
    regReadByte (s.withBus x) b o = ((regReadByte s b o).1, (regReadByte s b o).2.withBus x) := by
  unfold regReadByte
  split
  · rfl
  · simp only [regRead_withBus]

theorem regReadWord_withBus (s : State) (x : Bus) (b : Bank) (o : Nat) :
    regReadWord (s.withBus x) b o = ((regReadWord s b o).1, (regReadWord s b o).2.withBus x) := by
  unfold regReadWord
  split
  · split <;> simp only [regRead_withBus, regReadByte_withBus]
  · simp only [regReadByte_withBus]

theorem regWriteByte_withBus (s : State) (x : Bus) (b : Bank) (o : Nat) (v : Byte) :
    regWriteByte (s.withBus x) b o v = (regWriteByte s b o v).withBus x := by
  unfold regWriteByte
  split
  · rfl
  · split <;> simp only [regRead_withBus, regWrite_withBus]

theorem regWriteWord_withBus (s : State) (x : Bus) (b : Bank) (o : Nat) (v : Word) :
    regWriteWord (s.withBus x) b o v = (regWriteWord s b o v).withBus x := by
  unfold regWriteWord
  split
  · split
    · split <;> simp only [regRead_withBus, regWrite_withBus]
    · simp only [regWriteByte_withBus]
  · simp only [regWriteByte_withBus]

/-! ### The register rules leave the configuration alone -/

theorem setGpioBit_cfg (s : State) (i : BitVec 3) (v : Bool) : (setGpioBit s i v).cfg = s.cfg := by
  obtain ⟨p, tr, h⟩ := setGpioBit_frame s i v
  rw [h]

theorem setMode_cfg (s : State) (id : TimerId) (m : BitVec 4) : (setMode s id m).cfg = s.cfg := by
  obtain ⟨p, _, _, h⟩ | ⟨p, _, _, h⟩ | ⟨_, h⟩ := setMode_cases s id m <;> rw [h] <;> rfl

theorem regRead_cfg (s : State) (r : Reg) : (regRead s r).2.cfg = s.cfg := by
  cases r
  case data =>
    simp only [regRead, readDmaData, drawCtrl]
    split
    · rfl
    · split <;> rfl
  all_goals rfl

theorem regWrite_cfg (s : State) (r : Reg) (v : BitVec 32) : (regWrite s r v).cfg = s.cfg := by
  cases r <;> simp only [regWrite]
  case ctrl =>
    unfold writeBlitCtrl
    simp only
    split
    · split
      · rfl
      · exact setGpioBit_cfg _ _ _
    · split
      · exact setGpioBit_cfg _ _ _
      · rfl
  case tacr => exact setMode_cfg _ _ _
  case tbcr => exact setMode_cfg _ _ _
  case tcdcr => exact (setMode_cfg _ _ _).trans (setMode_cfg _ _ _)
  case data =>
    unfold writeDmaData
    split
    · exact setGpioBit_cfg _ _ _
    · rfl
  case mode =>
    unfold writeDmaMode
    simp only
    split
    · rfl
    · exact setGpioBit_cfg _ _ _
  case sndCtrl =>
    unfold writeSndCtrl
    simp only
    split
    · rfl
    · split <;> rfl
  all_goals first
    | rfl
    | (unfold writeTimerData; split <;> rfl)

theorem regReadByte_cfg (s : State) (b : Bank) (o : Nat) : (regReadByte s b o).2.cfg = s.cfg := by
  unfold regReadByte
  split
  · rfl
  · exact regRead_cfg _ _

theorem regReadWord_cfg (s : State) (b : Bank) (o : Nat) : (regReadWord s b o).2.cfg = s.cfg := by
  unfold regReadWord
  split
  · split
    · exact regRead_cfg _ _
    · exact (regReadByte_cfg _ _ _).trans (regReadByte_cfg _ _ _)
  · exact (regReadByte_cfg _ _ _).trans (regReadByte_cfg _ _ _)

theorem regWriteByte_cfg (s : State) (b : Bank) (o : Nat) (v : Byte) : (regWriteByte s b o v).cfg = s.cfg := by
  unfold regWriteByte
  split
  · rfl
  · split
    · exact regWrite_cfg _ _ _
    · exact (regWrite_cfg _ _ _).trans (regRead_cfg _ _)

theorem regWriteWord_cfg (s : State) (b : Bank) (o : Nat) (v : Word) : (regWriteWord s b o v).cfg = s.cfg := by
  unfold regWriteWord
  split
  · split
    · split
      · exact regWrite_cfg _ _ _
      · exact (regWrite_cfg _ _ _).trans (regRead_cfg _ _)
    · exact (regWriteByte_cfg _ _ _ _).trans (regWriteByte_cfg _ _ _ _)
  · exact (regWriteByte_cfg _ _ _ _).trans (regWriteByte_cfg _ _ _ _)

/-! ### Transactions with a bank -/

/-- Reading a bank leaves the latches as they are. -/
theorem regReadWord_bus (s : State) (b : Bank) (o : Nat) : (regReadWord s b o).2.bus = s.bus :=
  congrArg (fun p : Word × State => p.2.bus) (regReadWord_withBus s s.bus b o)

theorem regReadByte_bus (s : State) (b : Bank) (o : Nat) : (regReadByte s b o).2.bus = s.bus :=
  congrArg (fun p : Byte × State => p.2.bus) (regReadByte_withBus s s.bus b o)

/-- Writing a bank leaves the latches as they are. -/
theorem regWriteWord_bus (s : State) (b : Bank) (o : Nat) (v : Word) : (regWriteWord s b o v).bus = s.bus := by
  change (regWriteWord (s.withBus s.bus) b o v).bus = s.bus
  rw [regWriteWord_withBus]
  rfl

theorem regWriteByte_bus (s : State) (b : Bank) (o : Nat) (v : Byte) : (regWriteByte s b o v).bus = s.bus := by
  change (regWriteByte (s.withBus s.bus) b o v).bus = s.bus
  rw [regWriteByte_withBus]
  rfl

/-- A read transaction with a bank: the read rule, then the latches and the ticks. -/
theorem txRead_bank (s : State) (u : Master) (a p : Addr) (b : Bank) (o : Nat) :
    txRead s u a p (.bank b o) .byte =
      (some (byteToWord (regReadByte s b o).1),
        transacted (regReadByte s b o).2 u a (onLatch s.cfg (byteToWord (regReadByte s b o).1)) .byte .read
          (txCost s.cfg u (.bank b o))) ∧
    txRead s u a p (.bank b o) .word =
      (some (regReadWord s b o).1,
        transacted (regReadWord s b o).2 u a (onLatch s.cfg (regReadWord s b o).1) .word .read
          (txCost s.cfg u (.bank b o))) := by
  constructor
  · rw [← regReadByte_cfg s b o]
    refine txRead_some ?_
    simp only [readRegion, regReadByte_withBus, regReadByte_bus]
  · rw [← regReadWord_cfg s b o]
    refine txRead_some ?_
    simp only [readRegion, regReadWord_withBus, regReadWord_bus]

/-- A write transaction with a bank: the write rule, then the latches and the ticks. -/
theorem txWrite_bank (s : State) (u : Master) (a p : Addr) (b : Bank) (o : Nat) (v : Word) :
    txWrite s u a p (.bank b o) .byte v =
      transacted (regWriteByte s b o (loByte v)) u a (onLatch s.cfg v) .byte .write (txCost s.cfg u (.bank b o)) ∧
    txWrite s u a p (.bank b o) .word v =
      transacted (regWriteWord s b o v) u a (onLatch s.cfg v) .word .write (txCost s.cfg u (.bank b o)) := by
  constructor
  · have h := txWrite_some (s := s) (s1 := regWriteByte s b o (loByte v)) (u := u) (a := a) (p := p)
      (r := .bank b o) (w := .byte) (v := v) (by simp only [writeRegion, regWriteByte_withBus, regWriteByte_bus])
    rw [h, regWriteByte_cfg]
  · have h := txWrite_some (s := s) (s1 := regWriteWord s b o v) (u := u) (a := a) (p := p)
      (r := .bank b o) (w := .word) (v := v) (by simp only [writeRegion, regWriteWord_withBus, regWriteWord_bus])
    rw [h, regWriteWord_cfg]

/-- What a word read by the blitter or the DMA engine gives. -/
theorem busRead_of_fetched (s t : State) (u : Master) (a : Addr) (w : Word) (hu : u ≠ .cpu)
    (h : Fetched s u a w t) :
    (busRead s u a .word).1.getD s.bus.dataLatch = w ∧ (busRead s u a .word).2 = t := by
  have hc : ∀ r, txCost s.cfg u r = s.cfg.tBus := by
    intro r
    cases u
    · exact absurd rfl hu
    all_goals rfl
  unfold busRead
  rcases h with ⟨hr, hw, ht⟩ | ⟨b, o, hr, _, hw, ht⟩ | ⟨hr, hw, ht⟩ | ⟨hr, hw, ht⟩
  · simp only [hr, (txRead_ram s u _ _).2]
    subst hw
    exact ⟨rfl, ht.symm⟩
  · simp only [hr, (txRead_bank s u _ _ b o).2, hc]
    subst hw
    exact ⟨rfl, ht.symm⟩
  · simp only [hr, txRead_ext]
    subst hw
    exact ⟨rfl, ht.symm⟩
  · simp only [hr, txRead_none]
    subst hw
    exact ⟨rfl, ht.symm⟩

/-- What a word write by the blitter or the DMA engine leaves. -/
theorem busWrite_of_stored (s t : State) (u : Master) (a : Addr) (v : Word) (hu : u ≠ .cpu)
    (h : Stored s u a v t) : busWrite s u a .word v = t := by
  have hc : ∀ r, txCost s.cfg u r = s.cfg.tBus := by
    intro r
    cases u
    · exact absurd rfl hu
    all_goals rfl
  unfold busWrite
  rcases h with ⟨hr, ht⟩ | ⟨b, o, hr, _, ht⟩ | ⟨hr, ht⟩ | ⟨hr, ht⟩
  · simp only [hr, (txWrite_ram s u _ _ v).2]
    exact ht.symm
  · simp only [hr, (txWrite_bank s u _ _ b o v).2, hc]
    exact ht.symm
  · simp only [hr, txWrite_ext]
    exact ht.symm
  · simp only [hr, txWrite_none]
    exact ht.symm

/-! ### Offsets without a register -/

/-- The bytes the table gives a register are those a register is found at. -/
theorem regAt_eq_none (b : Bank) (o : Nat) (h : registerByte b o = false) : regAt b o = none := by
  cases b <;> simp only [registerByte, regAt] at h ⊢
  · simp only [decide_eq_false_iff_not] at h
    unfold blitRegAt
    split
    · omega
    · split <;> first | rfl | (exfalso; omega)
  · unfold mfpRegAt
    split <;> first | rfl | (exfalso; revert h; decide)
  · unfold dmaRegAt
    split <;> first | rfl | (exfalso; revert h; decide)
  · unfold vidRegAt
    simp only [Bool.or_eq_false_iff, Bool.and_eq_false_iff, beq_eq_false_iff_ne, decide_eq_false_iff_not] at h
    split
    · omega
    · split <;> first | rfl | (exfalso; omega)
  · unfold sndRegAt
    split <;> first | rfl | (exfalso; revert h; decide)

/-- A byte with no register reads 0xFF and ignores a write. -/
theorem hole_byte (s : State) (b : Bank) (o : Nat) (v : Byte) (h : registerByte b o = false) :
    regReadByte s b o = (0xFF, s) ∧ regWriteByte s b o v = s := by
  have hn := regAt_eq_none b o h
  constructor
  · simp only [regReadByte, hn]
  · simp only [regWriteByte, hn]

/-! ### A bank's rules reach the blitter only in its own bank, the DMA engine only in its own -/

/-- The bank a register stands in (30_encoding.md R114). -/
def regBank : Reg → Bank
  | .halftone _ | .srcXinc | .srcYinc | .srcAddr | .endmask1 | .endmask2 | .endmask3 | .dstXinc | .dstYinc
  | .dstAddr | .xCount | .yCount | .hop | .op | .ctrl | .skew => .blit
  | .gpip | .aer | .ddr | .iera | .ierb | .ipra | .iprb | .isra | .isrb | .imra | .imrb | .vr
  | .tacr | .tbcr | .tcdcr | .tadr | .tbdr | .tcdr | .tddr => .mfp
  | .data | .mode | .addrHi | .addrMid | .addrLo => .dma
  | .sync | .palette _ | .shiftMode | .hscroll => .vid
  | .sndCtrl | .sndMode => .snd

theorem regBank_of_regAt {b : Bank} {o : Nat} {r : Reg} {k : Nat} (h : regAt b o = some (r, k)) : regBank r = b := by
  revert h
  cases b <;> simp only [regAt, blitRegAt, mfpRegAt, dmaRegAt, vidRegAt, sndRegAt] <;> repeat' split
  all_goals
    intro h
    cases h <;> rfl

theorem setGpioBit_units (s : State) (i : BitVec 3) (v : Bool) :
    (setGpioBit s i v).blit = s.blit ∧ (setGpioBit s i v).dma = s.dma ∧ (setGpioBit s i v).owner = s.owner := by
  obtain ⟨p, tr, h⟩ := setGpioBit_frame s i v
  rw [h]
  exact ⟨rfl, rfl, rfl⟩

theorem setMode_units (s : State) (id : TimerId) (m : BitVec 4) :
    (setMode s id m).blit = s.blit ∧ (setMode s id m).dma = s.dma ∧ (setMode s id m).owner = s.owner := by
  obtain ⟨p, _, _, h⟩ | ⟨p, _, _, h⟩ | ⟨_, h⟩ := setMode_cases s id m <;> rw [h] <;> exact ⟨rfl, rfl, rfl⟩

theorem regRead_units (s : State) (r : Reg) :
    (regRead s r).2.blit = s.blit ∧ (regRead s r).2.dma = s.dma ∧ (regRead s r).2.owner = s.owner := by
  cases r
  case data =>
    simp only [regRead, readDmaData, drawCtrl]
    split
    · exact ⟨rfl, rfl, rfl⟩
    · split <;> exact ⟨rfl, rfl, rfl⟩
  all_goals exact ⟨rfl, rfl, rfl⟩

theorem regWrite_units (s : State) (r : Reg) (v : BitVec 32) :
    (regBank r ≠ .blit → (regWrite s r v).blit = s.blit) ∧ (regBank r ≠ .dma → (regWrite s r v).dma = s.dma) ∧
      (regWrite s r v).owner = s.owner := by
  cases r <;> simp only [regWrite]
  case ctrl =>
    unfold writeBlitCtrl
    simp only
    refine ⟨fun h => absurd rfl h, fun _ => ?_, ?_⟩
    · split
      · split
        · rfl
        · exact (setGpioBit_units _ _ _).2.1
      · split
        · exact (setGpioBit_units _ _ _).2.1
        · rfl
    · split
      · split
        · rfl
        · exact (setGpioBit_units _ _ _).2.2
      · split
        · exact (setGpioBit_units _ _ _).2.2
        · rfl
  case tacr =>
    obtain ⟨h1, h2, h3⟩ := setMode_units s .a (BitVec.extractLsb' 0 4 (v.setWidth 8))
    exact ⟨fun _ => h1, fun _ => h2, h3⟩
  case tbcr =>
    obtain ⟨h1, h2, h3⟩ := setMode_units s .b (BitVec.extractLsb' 0 4 (v.setWidth 8))
    exact ⟨fun _ => h1, fun _ => h2, h3⟩
  case tcdcr =>
    unfold writeTcdcr
    simp only [setMode_units, implies_true, and_self]
  case data =>
    unfold writeDmaData writeSectorCount lineUpdate
    refine ⟨fun _ => ?_, fun h => absurd rfl h, ?_⟩
    · split
      · exact (setGpioBit_units _ _ _).1
      · rfl
    · split
      · exact (setGpioBit_units _ _ _).2.2
      · rfl
  case mode =>
    unfold writeDmaMode engineReset lineUpdate
    simp only
    refine ⟨fun _ => ?_, fun h => absurd rfl h, ?_⟩
    · split
      · rfl
      · exact (setGpioBit_units _ _ _).1
    · split
      · rfl
      · exact (setGpioBit_units _ _ _).2.2
  case sndCtrl =>
    unfold writeSndCtrl
    simp only
    split
    · exact ⟨fun _ => rfl, fun _ => rfl, rfl⟩
    · split <;> exact ⟨fun _ => rfl, fun _ => rfl, rfl⟩
  all_goals first
    | exact ⟨fun _ => rfl, fun _ => rfl, rfl⟩
    | exact ⟨fun h => absurd rfl h, fun _ => rfl, rfl⟩
    | exact ⟨fun _ => rfl, fun h => absurd rfl h, rfl⟩
    | (unfold writeTimerData; split <;> exact ⟨fun _ => rfl, fun _ => rfl, rfl⟩)

theorem regReadByte_units (s : State) (b : Bank) (o : Nat) :
    (regReadByte s b o).2.blit = s.blit ∧ (regReadByte s b o).2.dma = s.dma ∧
      (regReadByte s b o).2.owner = s.owner := by
  unfold regReadByte
  split
  · exact ⟨rfl, rfl, rfl⟩
  · exact regRead_units _ _

/-- A read of a bank changes neither the blitter nor the DMA engine nor the owner of the bus. -/
theorem regReadWord_units (s : State) (b : Bank) (o : Nat) :
    (regReadWord s b o).2.blit = s.blit ∧ (regReadWord s b o).2.dma = s.dma ∧
      (regReadWord s b o).2.owner = s.owner := by
  unfold regReadWord
  split
  · split
    · exact regRead_units _ _
    · simp only [regReadByte_units, and_self]
  · simp only [regReadByte_units, and_self]

theorem regWriteByte_units (s : State) (b : Bank) (o : Nat) (v : Byte) :
    (b ≠ .blit → (regWriteByte s b o v).blit = s.blit) ∧ (b ≠ .dma → (regWriteByte s b o v).dma = s.dma) ∧
      (regWriteByte s b o v).owner = s.owner := by
  unfold regWriteByte
  split
  · exact ⟨fun _ => rfl, fun _ => rfl, rfl⟩
  · rename_i r k hr
    have hb := regBank_of_regAt hr
    split
    · rw [← hb]
      exact regWrite_units _ _ _
    · obtain ⟨h1, h2, h3⟩ := regWrite_units (regRead s r).2 r (putRegByte (regRead s r).1 (regSize r) k v)
      obtain ⟨g1, g2, g3⟩ := regRead_units s r
      rw [← hb]
      exact ⟨fun h => (h1 h).trans g1, fun h => (h2 h).trans g2, h3.trans g3⟩

/-- A write of a bank changes the blitter only in the blitter's bank, the DMA engine only in the DMA bank, and the
owner of the bus in none. -/
theorem regWriteWord_units (s : State) (b : Bank) (o : Nat) (v : Word) :
    (b ≠ .blit → (regWriteWord s b o v).blit = s.blit) ∧ (b ≠ .dma → (regWriteWord s b o v).dma = s.dma) ∧
      (regWriteWord s b o v).owner = s.owner := by
  have two : (b ≠ .blit → (regWriteByte (regWriteByte s b o (hiByte v)) b (o + 1) (loByte v)).blit = s.blit) ∧
      (b ≠ .dma → (regWriteByte (regWriteByte s b o (hiByte v)) b (o + 1) (loByte v)).dma = s.dma) ∧
      (regWriteByte (regWriteByte s b o (hiByte v)) b (o + 1) (loByte v)).owner = s.owner := by
    obtain ⟨h1, h2, h3⟩ := regWriteByte_units (regWriteByte s b o (hiByte v)) b (o + 1) (loByte v)
    obtain ⟨g1, g2, g3⟩ := regWriteByte_units s b o (hiByte v)
    exact ⟨fun h => (h1 h).trans (g1 h), fun h => (h2 h).trans (g2 h), h3.trans g3⟩
  unfold regWriteWord
  split
  · rename_i r k r' k' hr hr'
    have hb := regBank_of_regAt hr
    split
    · split
      · rw [← hb]
        exact regWrite_units _ _ _
      · obtain ⟨h1, h2, h3⟩ := regWrite_units (regRead s r).2 r
          (putRegByte (putRegByte (regRead s r).1 (regSize r) k (hiByte v)) (regSize r) k' (loByte v))
        obtain ⟨g1, g2, g3⟩ := regRead_units s r
        rw [← hb]
        exact ⟨fun h => (h1 h).trans g1, fun h => (h2 h).trans g2, h3.trans g3⟩
    · exact two
  · exact two

end Sys2Proof.Machine
end

