-- ==== Sys2Proof/Laws/Encoding.lean ====
section
/-! SUPPORT. The operands of the encoding put together again: natural numbers, addresses and words from their
big-endian bytes (30_encoding.md R130), and small operands from the byte that holds them. -/

namespace Sys2Proof

open Sys2Proof.Machine

/-- The bytes of a natural operand that fits give it back. -/
theorem natOf4_bytes (n : Nat) (h : fitsFourBytes n = true) :
    natOf4 ((BitVec.ofNat 32 n).extractLsb' 24 8) ((BitVec.ofNat 32 n).extractLsb' 16 8)
      ((BitVec.ofNat 32 n).extractLsb' 8 8) ((BitVec.ofNat 32 n).extractLsb' 0 8) = n := by
  simp only [fitsFourBytes, decide_eq_true_eq] at h
  simp only [natOf4, BitVec.toNat_append, BitVec.extractLsb'_toNat, BitVec.toNat_ofNat, Nat.shiftRight_eq_div_pow]
  rw [← Nat.shiftLeft_add_eq_or_of_lt (by omega), ← Nat.shiftLeft_add_eq_or_of_lt (by omega), ← Nat.shiftLeft_add_eq_or_of_lt (by omega)] <;>
    simp only [Nat.shiftLeft_eq] <;> omega

/-- The three bytes of an address that fits them give it back. -/
theorem mkAddr_bytes (a : Addr) (h : fitsThreeBytes a = true) : mkAddr (addrHi a) (addrMid a) (addrLo a) = a := by
  simp only [fitsThreeBytes, decide_eq_true_eq] at h
  apply BitVec.eq_of_getLsbD_eq
  intro i hi
  simp only [mkAddr, addrHi, addrMid, addrLo, BitVec.getLsbD_append, BitVec.getLsbD_extractLsb']
  by_cases h24 : 24 ≤ i
  · have : a.getLsbD i = false := by
      rw [BitVec.getLsbD, Nat.testBit_lt_two_pow]
      exact lt_of_lt_of_le h (Nat.pow_le_pow_right (show 0 < 2 by decide) h24)
    have h0 : ¬ i < 8 := by omega
    have h1 : ¬ i - 8 < 8 := by omega
    have h2 : ¬ i - 8 - 8 < 8 := by omega
    simp [this, h0, h1, h2]
  · by_cases h0 : i < 8
    · simp [h0]
    · by_cases h1 : i - 8 < 8
      · simp [h0, h1, show 8 + (i - 8) = i by omega]
      · have h2 : i - 8 - 8 < 8 := by omega
        simp [h0, h1, h2, show 16 + (i - 8 - 8) = i by omega]

/-- An address of three bytes has the three as its parts, and fits them. -/
theorem mkAddr_fits (h m l : Byte) : fitsThreeBytes (mkAddr h m l) = true ∧
    addrHi (mkAddr h m l) = h ∧ addrMid (mkAddr h m l) = m ∧ addrLo (mkAddr h m l) = l := by
  have b1 := h.isLt
  have b2 := m.isLt
  have b3 := l.isLt
  have e : (mkAddr h m l).toNat = h.toNat * 65536 + m.toNat * 256 + l.toNat := by
    simp only [mkAddr, BitVec.toNat_append]
    rw [← Nat.shiftLeft_add_eq_or_of_lt (by omega), ← Nat.shiftLeft_add_eq_or_of_lt (by omega),
      ← Nat.shiftLeft_add_eq_or_of_lt (by omega)]
    simp only [Nat.shiftLeft_eq]
    simp
    omega
  refine ⟨?_, ?_, ?_, ?_⟩
  · simp only [fitsThreeBytes, decide_eq_true_eq]
    omega
  all_goals
    apply BitVec.eq_of_toNat_eq
    simp only [addrHi, addrMid, addrLo, BitVec.extractLsb'_toNat, Nat.shiftRight_eq_div_pow, e]
    omega

/-- The halves of a word give it back. -/
@[simp] theorem mkWord_bytes (w : Word) : mkWord (hiByte w) (loByte w) = w := by
  apply BitVec.eq_of_toNat_eq
  have := w.isLt
  simp only [mkWord, hiByte, loByte, BitVec.toNat_append, BitVec.extractLsb'_toNat, Nat.shiftRight_eq_div_pow]
  rw [← Nat.shiftLeft_add_eq_or_of_lt (by omega)]
  simp only [Nat.shiftLeft_eq]
  omega

@[simp] theorem hiByte_mkWord (h l : Byte) : hiByte (mkWord h l) = h := by
  apply BitVec.eq_of_toNat_eq
  have := h.isLt
  have := l.isLt
  simp only [mkWord, hiByte, BitVec.toNat_append, BitVec.extractLsb'_toNat, Nat.shiftRight_eq_div_pow]
  rw [← Nat.shiftLeft_add_eq_or_of_lt (by omega)]
  simp only [Nat.shiftLeft_eq]
  omega

@[simp] theorem loByte_mkWord (h l : Byte) : loByte (mkWord h l) = l := by
  apply BitVec.eq_of_toNat_eq
  have := h.isLt
  have := l.isLt
  simp only [mkWord, loByte, BitVec.toNat_append, BitVec.extractLsb'_toNat, Nat.shiftRight_eq_div_pow]
  rw [← Nat.shiftLeft_add_eq_or_of_lt (by omega)]
  simp only [Nat.shiftLeft_eq]
  omega

@[simp] theorem loByte_byteToWord (b : Byte) : loByte (byteToWord b) = b := by
  revert b
  decide

@[simp] theorem narrow_three (l : BitVec 3) : narrow 3 (l.setWidth 8) = some l := by
  revert l
  decide

@[simp] theorem narrow_four (l : BitVec 4) : narrow 4 (l.setWidth 8) = some l := by
  revert l
  decide

@[simp] theorem narrowBit_byteOfBit (b : Bool) : narrowBit (byteOfBit b) = some b := by
  revert b
  decide

@[simp] theorem slotOfCode_slotCode (id : SlotId) : slotOfCode (slotCode id) = some id := by
  cases id <;> rfl

end Sys2Proof
end

