-- ==== Sys2Proof/Laws/Operands.lean ====
section
/-! SUPPORT. Addresses and data of the configured widths: keeping the low bits twice is keeping them once, and a
value that fits is kept whole (00_scope.md R6, 20_memory.md R80, 10_state.md R24, R31, R61; entry 2). -/

namespace Sys2Proof.Machine

/-- Bit by bit: the low `n` bits stay, the others are 0. -/
theorem getLsbD_lowBits {w : Nat} (n : Nat) (v : BitVec w) (i : Nat) :
    (lowBits n v).getLsbD i = (decide (i < n) && v.getLsbD i) := by
  simp only [lowBits, BitVec.getLsbD_and, BitVec.getLsbD_ofNat, Nat.testBit_two_pow_sub_one]
  by_cases h : i < w
  · simp [h, Bool.and_comm]
  · simp [BitVec.getLsbD_of_ge v i (by omega)]

@[simp] theorem lowBits_lowBits {w : Nat} (n : Nat) (v : BitVec w) : lowBits n (lowBits n v) = lowBits n v := by
  apply BitVec.eq_of_getLsbD_eq
  intro i _
  simp only [getLsbD_lowBits]
  cases decide (i < n) <;> rfl

/-- A value below `2 ^ n` is its low `n` bits. -/
theorem lowBits_of_lt {w : Nat} (n : Nat) (v : BitVec w) (h : v.toNat < 2 ^ n) : lowBits n v = v := by
  apply BitVec.eq_of_getLsbD_eq
  intro i _
  rw [getLsbD_lowBits]
  by_cases hn : i < n
  · simp [hn]
  · have : v.getLsbD i = false := by
      rw [BitVec.getLsbD, Nat.testBit_lt_two_pow]
      exact lt_of_lt_of_le h (Nat.pow_le_pow_right (show 0 < 2 by decide) (by omega))
    simp [hn, this]

@[simp] theorem onBus_onBus (c : Config) (a : Addr) : onBus c (onBus c a) = onBus c a := lowBits_lowBits _ _

/-- An address of the address space goes on the bus whole. -/
theorem onBus_of_lt (c : Config) (a : Addr) (h : a.toNat < 2 ^ c.addrBits) : onBus c a = a := lowBits_of_lt _ _ h

@[simp] theorem onLatch_onLatch (c : Config) (v : Word) : onLatch c (onLatch c v) = onLatch c v := lowBits_lowBits _ _

/-- A latch of 16 bits or more holds every word whole. -/
theorem onLatch_of_sixteen (c : Config) (v : Word) (h : 16 ≤ c.dataBits) : onLatch c v = v :=
  lowBits_of_lt _ _ (lt_of_lt_of_le v.isLt (Nat.pow_le_pow_right (show 0 < 2 by decide) h))

/-- Bit by bit: bit 0 and the bits from `ADDR_BITS` on are 0. -/
theorem getLsbD_addrReg (c : Config) (a : Addr) (i : Nat) :
    (addrReg c a).getLsbD i = (decide (i < c.addrBits) && (decide (i ≠ 0) && a.getLsbD i)) := by
  simp only [addrReg, onBus, getLsbD_lowBits, evenAddr, BitVec.getLsbD_and]
  by_cases h : i < 32
  · have : (0xFFFFFFFE : Addr).getLsbD i = decide (i ≠ 0) := by
      interval_cases i <;> rfl
    rw [this, Bool.and_comm (a.getLsbD i)]
  · simp [BitVec.getLsbD_of_ge a i (by omega)]

@[simp] theorem addrReg_addrReg (c : Config) (a : Addr) : addrReg c (addrReg c a) = addrReg c a := by
  apply BitVec.eq_of_getLsbD_eq
  intro i _
  simp only [getLsbD_addrReg]
  cases decide (i < c.addrBits) <;> cases decide (i ≠ 0) <;> rfl

@[simp] theorem onBus_addrReg (c : Config) (a : Addr) : onBus c (addrReg c a) = addrReg c a := onBus_onBus c _

/-- An address register moved by an even increment stays one: even, and of `ADDR_BITS` bits. -/
theorem addrReg_stepAddr (c : Config) (a inc : Addr) (ha : a.getLsbD 0 = false) (hi : inc.getLsbD 0 = false) :
    addrReg c (stepAddr c a inc) = stepAddr c a inc := by
  apply BitVec.eq_of_getLsbD_eq
  intro i _
  simp only [getLsbD_addrReg, stepAddr, onBus, getLsbD_lowBits]
  by_cases h0 : i = 0
  · subst h0
    have : (a + inc).getLsbD 0 = false := by
      rw [BitVec.getLsbD_add (by decide)]
      rw [ha, hi, BitVec.carry_zero]
      rfl
    rw [this]
    simp
  · cases decide (i < c.addrBits) <;> simp [h0]

end Sys2Proof.Machine
end

