-- ==== Sys2Proof/Laws/RegFile.lean ====
section
/-! SUPPORT. The bytes of a register value (20_memory.md R88, R89): what each byte of a one-byte, two-byte and
four-byte register reads, and what a value with a byte replaced is. -/

namespace Sys2Proof.Machine

@[simp] theorem regByte_one (b : Byte) : regByte (wideByte b) 1 0 = b := by
  simp only [regByte, wideByte]
  ext i hi
  simp

@[simp] theorem regByte_two_hi (w : Word) : regByte (wide w) 2 0 = hiByte w := by
  simp only [regByte, wide, hiByte]
  ext i hi
  simp
  omega

@[simp] theorem regByte_two_lo (w : Word) : regByte (wide w) 2 1 = loByte w := by
  simp only [regByte, wide, loByte]
  ext i hi
  simp

@[simp] theorem regByte_addr_top (a : Addr) : regByte a 4 0 = addrTop a := by
  simp only [regByte, addrTop]
  ext i hi
  simp

@[simp] theorem regByte_addr_hi (a : Addr) : regByte a 4 1 = addrHi a := by
  simp only [regByte, addrHi]
  ext i hi
  simp

@[simp] theorem regByte_addr_mid (a : Addr) : regByte a 4 2 = addrMid a := by
  simp only [regByte, addrMid]
  ext i hi
  simp

@[simp] theorem regByte_addr_lo (a : Addr) : regByte a 4 3 = addrLo a := by
  simp only [regByte, addrLo]
  ext i hi
  simp

@[simp] theorem wide_setWidth (w : Word) : (wide w).setWidth 16 = w := by
  simp [wide]

@[simp] theorem wideByte_setWidth (b : Byte) : (wideByte b).setWidth 8 = b := by
  simp [wideByte]

/-- The high byte of a two-byte register replaced. -/
theorem putRegByte_two_hi (w : Word) (b : Byte) : (putRegByte (wide w) 2 0 b).setWidth 16 = mkWord b (loByte w) := by
  apply BitVec.eq_of_getLsbD_eq
  intro i hi
  simp only [putRegByte, wide, mkWord, loByte, BitVec.getLsbD_setWidth, BitVec.getLsbD_or, BitVec.getLsbD_and,
    BitVec.getLsbD_not, BitVec.getLsbD_shiftLeft, BitVec.getLsbD_append, BitVec.getLsbD_extractLsb']
  interval_cases i <;> simp

/-- The low byte of a two-byte register replaced. -/
theorem putRegByte_two_lo (w : Word) (b : Byte) : (putRegByte (wide w) 2 1 b).setWidth 16 = mkWord (hiByte w) b := by
  apply BitVec.eq_of_getLsbD_eq
  intro i hi
  simp only [putRegByte, wide, mkWord, hiByte, BitVec.getLsbD_setWidth, BitVec.getLsbD_or, BitVec.getLsbD_and,
    BitVec.getLsbD_not, BitVec.getLsbD_shiftLeft, BitVec.getLsbD_append, BitVec.getLsbD_extractLsb']
  interval_cases i <;> simp

end Sys2Proof.Machine
end

