-- ==== Sys2Proof/Tests/Slice0.lean ====
section
/-! SUPPORT. This model's own tests: the smoke test of WellFormed, the decoding of every constructor from bytes
written out from the tables of 30_encoding.md (R111, R112, R114 with the access layout of entry 8, R120 to R127),
single steps against the vectors of 95_test_vectors.md (named in each test's comment), and a witness for the
hypotheses of every statement that has some. -/

namespace Sys2Proof.Tests

open Sys2Proof Sys2Proof.Machine

/-! ### WellFormed: an ill-formed term for each check, and its well-formed neighbour -/

theorem test_wf_run_zero : Instr.wf (.run 0) = false ∧ Instr.wf (.run 1) = true := by decide
theorem test_wf_run_too_long : Instr.wf (.run 0x100000000) = false ∧ Instr.wf (.run 0xFFFFFFFF) = true := by decide
theorem test_wf_read_odd : Instr.wf (.rdW 0x001001) = false ∧ Instr.wf (.rdW 0x001000) = true := by decide
theorem test_wf_write_odd : Instr.wf (.wrW 0x001001 0x1234) = false ∧ Instr.wf (.wrW 0x001000 0x1234) = true := by
  decide
/-- An address past the three bytes of its encoding, which a bus of more than 24 bits has (entry 2). -/
theorem test_wf_address_too_long : Instr.wf (.rdB 0x01000000) = false ∧ Instr.wf (.rdW 0x01000000) = false ∧
    Instr.wf (.wrB 0x01000000 0) = false ∧ Instr.wf (.wrW 0x01000000 0) = false ∧ Instr.wf (.rdB 0xFFFFFF) = true := by
  decide
theorem test_wf_int_line :
    Instr.wf (.int 8) = false ∧ Instr.wf (.int 13) = false ∧ Instr.wf (.int 9) = true ∧ Instr.wf (.int 12) = true := by
  decide
theorem test_wf_restore_nothing : Instr.wf (.restore none) = false := by decide
theorem test_wf_schedule_late : Instr.wf (.schedule .ta (some 0x100000000)) = false := by decide
theorem test_wf_request_long : Instr.wf (.requestBus .blit 0x100000000) = false := by decide
theorem test_wf_idle_long : Instr.wf (.idle 0x100000000) = false := by decide

/-- The reset configuration is well formed; two banks at one address, a line of no ticks, a sound period of 0, an
odd RAM size, one line for two units, and banks past the address space are not. -/
theorem test_wf_config : Config.default.wf = true ∧
    ({ Config.default with mfpBase := 0xFF8A00 } : Config).wf = false ∧
    ({ Config.default with vtPal50 := ⟨0, 0, 0, 0, 1, 0, 0⟩ } : Config).wf = false ∧
    ({ Config.default with samplePeriod2 := 0 } : Config).wf = false ∧
    ({ Config.default with ramSize := 0xFFFFF } : Config).wf = false ∧
    ({ Config.default with dmaGpio := 3 } : Config).wf = false ∧
    ({ Config.default with addrBits := 23 } : Config).wf = false ∧
    ({ Config.default with addrBits := 32 } : Config).wf = true := by decide

/-! ### Decoding -/

/-- Every packet of the list decodes to the instruction beside it. -/
def decodesAll (l : List (Packet × Instr)) : Bool := l.all (fun x => decide (decode x.1 = .ok x.2))


theorem test_decode_cmd : decodesAll [
    (⟨.cmd, [0x00, 0x00, 0x01, 0x02, 0x03], none⟩, .run 0x010203),
    (⟨.cmd, [0x01, 0xFF, 0xFA, 0x01], none⟩, .rdB 0xFFFA01),
    (⟨.cmd, [0x02, 0x00, 0x10, 0x00], none⟩, .rdW 0x001000),
    (⟨.cmd, [0x03, 0xFF, 0xFA, 0x17, 0x48], none⟩, .wrB 0xFFFA17 0x48),
    (⟨.cmd, [0x04, 0xFF, 0x86, 0x06, 0x01, 0x00], none⟩, .wrW 0xFF8606 0x0100),
    (⟨.cmd, [0x05, 0x06], none⟩, .iack 6),
    (⟨.cmd, [0x06, 0x04, 0x01], none⟩, .gpio 4 true),
    (⟨.cmd, [0x07, 0x0C], none⟩, .int 12),
    (⟨.cmd, [0x08, 0x01], none⟩, .tai true),
    (⟨.cmd, [0x09, 0xAB], none⟩, .dbin 0xAB),
    (⟨.cmd, [0x0A], none⟩, .dbout),
    (⟨.cmd, [0x0B], none⟩, .resetC),
    (⟨.cmd, [0x0C], none⟩, .resetW),
    (⟨.cmd, [0x0D], none⟩, .snap),
    (⟨.cmd, [0x0E], none⟩, .restore none)] = true := by decide

theorem test_decode_call : decodesAll [
    (⟨.call, [0x10, 0x08, 0x00, 0x00, 0x00, 0x07, 0xD0], none⟩, .schedule .vidHb (some 2000)),
    (⟨.call, [0x11], none⟩, .advance),
    (⟨.call, [0x12, 0x01, 0x00, 0x00, 0x00, 0x20], none⟩, .requestBus .dma 32),
    (⟨.call, [0x13, 0x00, 0x00, 0x01, 0x00], none⟩, .idle 256),
    (⟨.call, [0x14, 0x03, 0x00], none⟩, .setGpioBit 3 false),
    (⟨.call, [0x15, 0x12, 0x34], none⟩, .pushSample 0x1234)] = true := by decide

theorem test_decode_blit_1 : decodesAll [
    (⟨.reg, [0xFF, 0x8A, 0x06, 0x01, 0x00, 0x00], none⟩, .regBlitHalftone 3 (.rd .both)),
    (⟨.reg, [0xFF, 0x8A, 0x07, 0x02, 0x00, 0x5A], none⟩, .regBlitHalftone 3 (.wr (.lo 0x5A))),
    (⟨.reg, [0xFF, 0x8A, 0x20, 0x01, 0x00, 0x00], none⟩, .regBlitSrcXinc (.rd .both)),
    (⟨.reg, [0xFF, 0x8A, 0x21, 0x02, 0x00, 0x5A], none⟩, .regBlitSrcXinc (.wr (.lo 0x5A))),
    (⟨.reg, [0xFF, 0x8A, 0x22, 0x01, 0x00, 0x00], none⟩, .regBlitSrcYinc (.rd .both)),
    (⟨.reg, [0xFF, 0x8A, 0x23, 0x02, 0x00, 0x5A], none⟩, .regBlitSrcYinc (.wr (.lo 0x5A))),
    (⟨.reg, [0xFF, 0x8A, 0x24, 0x01, 0x00, 0x00], none⟩, .regBlitSrcAddrH (.rd .both)),
    (⟨.reg, [0xFF, 0x8A, 0x25, 0x02, 0x00, 0x5A], none⟩, .regBlitSrcAddrH (.wr (.lo 0x5A))),
    (⟨.reg, [0xFF, 0x8A, 0x26, 0x01, 0x00, 0x00], none⟩, .regBlitSrcAddrL (.rd .both)),
    (⟨.reg, [0xFF, 0x8A, 0x27, 0x02, 0x00, 0x5A], none⟩, .regBlitSrcAddrL (.wr (.lo 0x5A))),
    (⟨.reg, [0xFF, 0x8A, 0x28, 0x01, 0x00, 0x00], none⟩, .regBlitEndmask1 (.rd .both)),
    (⟨.reg, [0xFF, 0x8A, 0x29, 0x02, 0x00, 0x5A], none⟩, .regBlitEndmask1 (.wr (.lo 0x5A))),
    (⟨.reg, [0xFF, 0x8A, 0x2A, 0x01, 0x00, 0x00], none⟩, .regBlitEndmask2 (.rd .both)),
    (⟨.reg, [0xFF, 0x8A, 0x2B, 0x02, 0x00, 0x5A], none⟩, .regBlitEndmask2 (.wr (.lo 0x5A))),
    (⟨.reg, [0xFF, 0x8A, 0x2C, 0x01, 0x00, 0x00], none⟩, .regBlitEndmask3 (.rd .both)),
    (⟨.reg, [0xFF, 0x8A, 0x2D, 0x02, 0x00, 0x5A], none⟩, .regBlitEndmask3 (.wr (.lo 0x5A))),
    (⟨.reg, [0xFF, 0x8A, 0x2E, 0x01, 0x00, 0x00], none⟩, .regBlitDstXinc (.rd .both)),
    (⟨.reg, [0xFF, 0x8A, 0x2F, 0x02, 0x00, 0x5A], none⟩, .regBlitDstXinc (.wr (.lo 0x5A))),
    (⟨.reg, [0xFF, 0x8A, 0x30, 0x01, 0x00, 0x00], none⟩, .regBlitDstYinc (.rd .both)),
    (⟨.reg, [0xFF, 0x8A, 0x31, 0x02, 0x00, 0x5A], none⟩, .regBlitDstYinc (.wr (.lo 0x5A))),
    (⟨.reg, [0xFF, 0x8A, 0x32, 0x01, 0x00, 0x00], none⟩, .regBlitDstAddrH (.rd .both)),
    (⟨.reg, [0xFF, 0x8A, 0x33, 0x02, 0x00, 0x5A], none⟩, .regBlitDstAddrH (.wr (.lo 0x5A))),
    (⟨.reg, [0xFF, 0x8A, 0x34, 0x01, 0x00, 0x00], none⟩, .regBlitDstAddrL (.rd .both)),
    (⟨.reg, [0xFF, 0x8A, 0x35, 0x02, 0x00, 0x5A], none⟩, .regBlitDstAddrL (.wr (.lo 0x5A)))] = true := by decide

theorem test_decode_blit_2 : decodesAll [
    (⟨.reg, [0xFF, 0x8A, 0x36, 0x01, 0x00, 0x00], none⟩, .regBlitXCount (.rd .both)),
    (⟨.reg, [0xFF, 0x8A, 0x37, 0x02, 0x00, 0x5A], none⟩, .regBlitXCount (.wr (.lo 0x5A))),
    (⟨.reg, [0xFF, 0x8A, 0x38, 0x01, 0x00, 0x00], none⟩, .regBlitYCount (.rd .both)),
    (⟨.reg, [0xFF, 0x8A, 0x39, 0x02, 0x00, 0x5A], none⟩, .regBlitYCount (.wr (.lo 0x5A))),
    (⟨.reg, [0xFF, 0x8A, 0x3A, 0x02, 0x00, 0x81], none⟩, .regBlitHop (.wr 0x81)),
    (⟨.reg, [0xFF, 0x8A, 0x3B, 0x02, 0x00, 0x81], none⟩, .regBlitOp (.wr 0x81)),
    (⟨.reg, [0xFF, 0x8A, 0x3C, 0x00, 0x00, 0x00], none⟩, .regBlitCtrlRead),
    (⟨.reg, [0xFF, 0x8A, 0x3C, 0x02, 0x00, 0x81], none⟩, .regBlitCtrlWrite 0x81),
    (⟨.reg, [0xFF, 0x8A, 0x3D, 0x02, 0x00, 0x81], none⟩, .regBlitSkew (.wr 0x81))] = true := by decide

theorem test_decode_mfp : decodesAll [
    (⟨.reg, [0xFF, 0xFA, 0x01, 0x02, 0x00, 0x81], none⟩, .regMfpGpip (.wr 0x81)),
    (⟨.reg, [0xFF, 0xFA, 0x03, 0x02, 0x00, 0x81], none⟩, .regMfpAer (.wr 0x81)),
    (⟨.reg, [0xFF, 0xFA, 0x05, 0x02, 0x00, 0x81], none⟩, .regMfpDdr (.wr 0x81)),
    (⟨.reg, [0xFF, 0xFA, 0x07, 0x02, 0x00, 0x81], none⟩, .regMfpIera (.wr 0x81)),
    (⟨.reg, [0xFF, 0xFA, 0x09, 0x02, 0x00, 0x81], none⟩, .regMfpIerb (.wr 0x81)),
    (⟨.reg, [0xFF, 0xFA, 0x0B, 0x02, 0x00, 0x81], none⟩, .regMfpIpra (.wr 0x81)),
    (⟨.reg, [0xFF, 0xFA, 0x0D, 0x02, 0x00, 0x81], none⟩, .regMfpIprb (.wr 0x81)),
    (⟨.reg, [0xFF, 0xFA, 0x0F, 0x02, 0x00, 0x81], none⟩, .regMfpIsra (.wr 0x81)),
    (⟨.reg, [0xFF, 0xFA, 0x11, 0x02, 0x00, 0x81], none⟩, .regMfpIsrb (.wr 0x81)),
    (⟨.reg, [0xFF, 0xFA, 0x13, 0x02, 0x00, 0x81], none⟩, .regMfpImra (.wr 0x81)),
    (⟨.reg, [0xFF, 0xFA, 0x15, 0x02, 0x00, 0x81], none⟩, .regMfpImrb (.wr 0x81)),
    (⟨.reg, [0xFF, 0xFA, 0x17, 0x02, 0x00, 0x81], none⟩, .regMfpVr (.wr 0x81)),
    (⟨.reg, [0xFF, 0xFA, 0x19, 0x02, 0x00, 0x81], none⟩, .regMfpTacr (.wr 0x81)),
    (⟨.reg, [0xFF, 0xFA, 0x1B, 0x02, 0x00, 0x81], none⟩, .regMfpTbcr (.wr 0x81)),
    (⟨.reg, [0xFF, 0xFA, 0x1D, 0x02, 0x00, 0x81], none⟩, .regMfpTcdcr (.wr 0x81)),
    (⟨.reg, [0xFF, 0xFA, 0x1F, 0x02, 0x00, 0x81], none⟩, .regMfpTadr (.wr 0x81)),
    (⟨.reg, [0xFF, 0xFA, 0x21, 0x02, 0x00, 0x81], none⟩, .regMfpTbdr (.wr 0x81)),
    (⟨.reg, [0xFF, 0xFA, 0x23, 0x02, 0x00, 0x81], none⟩, .regMfpTcdr (.wr 0x81)),
    (⟨.reg, [0xFF, 0xFA, 0x25, 0x02, 0x00, 0x81], none⟩, .regMfpTddr (.wr 0x81))] = true := by decide

theorem test_decode_dma : decodesAll [
    (⟨.reg, [0xFF, 0x86, 0x04, 0x01, 0x00, 0x00], none⟩, .regDmaDataCount (.rd .both)),
    (⟨.reg, [0xFF, 0x86, 0x05, 0x02, 0x00, 0x5A], none⟩, .regDmaDataCount (.wr (.lo 0x5A))),
    (⟨.reg, [0xFF, 0x86, 0x04, 0x05, 0x00, 0x00], none⟩, .regDmaDataController (.rd .both)),
    (⟨.reg, [0xFF, 0x86, 0x05, 0x06, 0x00, 0x5A], none⟩, .regDmaDataController (.wr (.lo 0x5A))),
    (⟨.reg, [0xFF, 0x86, 0x06, 0x03, 0x12, 0x34], none⟩, .regDmaMode (.both 0x1234)),
    (⟨.reg, [0xFF, 0x86, 0x06, 0x00, 0x00, 0x00], none⟩, .regDmaStatus .hi),
    (⟨.reg, [0xFF, 0x86, 0x09, 0x02, 0x00, 0x81], none⟩, .regDmaAddrHi (.wr 0x81)),
    (⟨.reg, [0xFF, 0x86, 0x0B, 0x02, 0x00, 0x81], none⟩, .regDmaAddrMid (.wr 0x81)),
    (⟨.reg, [0xFF, 0x86, 0x0D, 0x02, 0x00, 0x81], none⟩, .regDmaAddrLo (.wr 0x81))] = true := by decide

theorem test_decode_vid : decodesAll [
    (⟨.reg, [0xFF, 0x82, 0x0A, 0x02, 0x00, 0x81], none⟩, .regVidSync (.wr 0x81)),
    (⟨.reg, [0xFF, 0x82, 0x46, 0x00, 0x00, 0x00], none⟩, .regVidPaletteRead 3 .hi),
    (⟨.reg, [0xFF, 0x82, 0x46, 0x03, 0x12, 0x34], none⟩, .regVidPaletteWrite 3 (.both 0x1234)),
    (⟨.reg, [0xFF, 0x82, 0x60, 0x00, 0x00, 0x00], none⟩, .regVidShiftModeRead),
    (⟨.reg, [0xFF, 0x82, 0x60, 0x02, 0x00, 0x81], none⟩, .regVidShiftModeWrite 0x81),
    (⟨.reg, [0xFF, 0x82, 0x65, 0x02, 0x00, 0x81], none⟩, .regVidHscroll (.wr 0x81))] = true := by decide

theorem test_decode_snd : decodesAll [
    (⟨.reg, [0xFF, 0x89, 0x01, 0x02, 0x00, 0x81], none⟩, .regSndSndCtrl (.wr 0x81)),
    (⟨.reg, [0xFF, 0x89, 0x21, 0x02, 0x00, 0x81], none⟩, .regSndSndMode (.wr 0x81))] = true := by decide

theorem test_decode_codes_blit : decodesAll [
    (⟨.blitOp, [0], none⟩, .opZero),
    (⟨.blitOp, [1], none⟩, .opAnd),
    (⟨.blitOp, [2], none⟩, .opAndNotd),
    (⟨.blitOp, [3], none⟩, .opSrc),
    (⟨.blitOp, [4], none⟩, .opNotsAnd),
    (⟨.blitOp, [5], none⟩, .opDst),
    (⟨.blitOp, [6], none⟩, .opXor),
    (⟨.blitOp, [7], none⟩, .opOr),
    (⟨.blitOp, [8], none⟩, .opNor),
    (⟨.blitOp, [9], none⟩, .opXnor),
    (⟨.blitOp, [10], none⟩, .opNotd),
    (⟨.blitOp, [11], none⟩, .opOrNotd),
    (⟨.blitOp, [12], none⟩, .opNots),
    (⟨.blitOp, [13], none⟩, .opNotsOr),
    (⟨.blitOp, [14], none⟩, .opNand),
    (⟨.blitOp, [15], none⟩, .opOne),
    (⟨.blitHop, [0], none⟩, .hopOnes),
    (⟨.blitHop, [1], none⟩, .hopHalftone),
    (⟨.blitHop, [2], none⟩, .hopSource),
    (⟨.blitHop, [3], none⟩, .hopSrcAndHt)] = true := by decide

theorem test_decode_codes_ab : decodesAll [
    (⟨.tmodeAB, [0, 1], none⟩, .tmStop .b),
    (⟨.tmodeAB, [1, 1], none⟩, .tmDiv4 .b),
    (⟨.tmodeAB, [2, 1], none⟩, .tmDiv10 .b),
    (⟨.tmodeAB, [3, 1], none⟩, .tmDiv16 .b),
    (⟨.tmodeAB, [4, 1], none⟩, .tmDiv50 .b),
    (⟨.tmodeAB, [5, 1], none⟩, .tmDiv64 .b),
    (⟨.tmodeAB, [6, 1], none⟩, .tmDiv100 .b),
    (⟨.tmodeAB, [7, 1], none⟩, .tmDiv200 .b),
    (⟨.tmodeAB, [8, 1], none⟩, .tmEvent .b),
    (⟨.tmodeAB, [9, 1], none⟩, .tmRsv9 .b),
    (⟨.tmodeAB, [10, 1], none⟩, .tmRsv10 .b),
    (⟨.tmodeAB, [11, 1], none⟩, .tmRsv11 .b),
    (⟨.tmodeAB, [12, 1], none⟩, .tmRsv12 .b),
    (⟨.tmodeAB, [13, 1], none⟩, .tmRsv13 .b),
    (⟨.tmodeAB, [14, 1], none⟩, .tmRsv14 .b),
    (⟨.tmodeAB, [15, 1], none⟩, .tmRsv15 .b)] = true := by decide

theorem test_decode_codes_cd : decodesAll [
    (⟨.tmodeCD, [0, 1], none⟩, .tmStopCd .d),
    (⟨.tmodeCD, [1, 1], none⟩, .tmDiv4Cd .d),
    (⟨.tmodeCD, [2, 1], none⟩, .tmDiv10Cd .d),
    (⟨.tmodeCD, [3, 1], none⟩, .tmDiv16Cd .d),
    (⟨.tmodeCD, [4, 1], none⟩, .tmDiv50Cd .d),
    (⟨.tmodeCD, [5, 1], none⟩, .tmDiv64Cd .d),
    (⟨.tmodeCD, [6, 1], none⟩, .tmDiv100Cd .d),
    (⟨.tmodeCD, [7, 1], none⟩, .tmDiv200Cd .d)] = true := by decide

theorem test_decode_codes_others : decodesAll [
    (⟨.dmaMode, [0], none⟩, .dmaRead),
    (⟨.dmaMode, [1], none⟩, .dmaWrite),
    (⟨.shiftMode, [0], none⟩, .resLow),
    (⟨.shiftMode, [1], none⟩, .resMed),
    (⟨.shiftMode, [2], none⟩, .resHigh),
    (⟨.shiftMode, [3], none⟩, .resRsv3),
    (⟨.sync, [0], none⟩, .freq60),
    (⟨.sync, [1], none⟩, .freq50),
    (⟨.sndRate, [0], none⟩, .rate0),
    (⟨.sndRate, [1], none⟩, .rate1),
    (⟨.sndRate, [2], none⟩, .rate2),
    (⟨.sndRate, [3], none⟩, .rate3),
    (⟨.sndCtrl, [0], none⟩, .sndOff),
    (⟨.sndCtrl, [1], none⟩, .sndOn)] = true := by decide


theorem test_decode_refuses_by_name :
    decode ⟨.cmd, [], none⟩ = .error .empty ∧ decode ⟨.cmd, [0x0F], none⟩ = .error .unknownCode ∧
    decode ⟨.cmd, [0x05, 0x08], none⟩ = .error .operandRange ∧
    decode ⟨.cmd, [0x0A, 0x00], none⟩ = .error .wrongLength ∧
    decode ⟨.reg, [0xFF, 0xFA, 0x00, 0x00, 0x00, 0x00], none⟩ = .error .noRegister ∧
    decode ⟨.tmodeCD, [0x08, 0x00], none⟩ = .error .unknownCode := by decide

/-- The word of a table row: RESET.W is code 0x0C, OP_XOR's code 6 reads as the command of that code (entry 9),
0xFF8209 is no register, 0xFFFA17 is VR. -/
theorem test_table_words :
    decodeTableWord 8 0x0C = some .resetW ∧ decodeTableWord 8 0x06 = some (.gpio 0 false) ∧
    decodeTableWord 24 0xFF8209 = none ∧ decodeTableWord 24 0xFFFA17 = some (.regMfpVr .rd) := by decide

/-! ### Single steps -/

/-- The next state, or the given one where there is none. -/
def after (s : State) (i : Instr) : State :=
  match exec i s with
  | .next t => t
  | _ => s

/-- The last report a state has given. -/
def lastReport (s : State) : Option Report := s.out.reports.getLast?

/-- Reset, with two bytes of RAM written (V6). -/
def withRam : State := { State.reset with mem := [(0x1000, 0x12), (0x1001, 0x34)] }

/-- Reset, with the MFP replaced. -/
def withMfp (f : Mfp → Mfp) : State := { State.reset with mfp := f State.reset.mfp }

/-- Reset, with the DMA engine replaced. -/
def withDma (f : Dma → Dma) : State := { State.reset with dma := f State.reset.dma }

/-- Reset, with the blitter replaced. -/
def withBlit (f : Blit → Blit) : State := { State.reset with blit := f State.reset.blit }

/-- Reset, at another time. -/
def atTime (s : State) (n : Nat) : State := { s with sched := { s.sched with now := n } }

/-- Reset, with a slot due. -/
def dueAt (s : State) (id : SlotId) (d seq : Nat) : State :=
  { s with sched := { s.sched with slots := slotPut s.sched.slots id ⟨some d, seq, true⟩ } }

-- V3
theorem test_run_50 : (after (atTime State.reset 100) (.run 50)).sched.now = 150 := by decide
-- V6
theorem test_read_ram_word : lastReport (after withRam (.rdW 0x1000)) = some (.data .word 0x1234) := by decide
theorem test_read_ram_byte : lastReport (after withRam (.rdB 0x1001)) = some (.data .byte 0x0034) := by decide
-- V7
theorem test_bus_error : lastReport (after State.reset (.rdW 0x400000)) = some (.busError .cpu 0x400000 .read 2) ∧
    (after State.reset (.rdW 0x400000)).bus.addrLatch = 0x400000 := by decide
-- V8: offset 0x06 holds no register
theorem test_word_write_beside_a_hole : (after State.reset (.wrW 0xFFFA06 0xFF20)).mfp.ier = 0x2000 := by decide
theorem test_word_read_beside_a_hole :
    lastReport (after (withMfp fun m => { m with ier := 0x2000 }) (.rdW 0xFFFA06)) = some (.data .word 0xFF20) := by
  decide
-- V8: a hole reads 0xFF
theorem test_byte_read_of_a_hole : lastReport (after State.reset (.rdB 0xFFFA06)) = some (.data .byte 0x00FF) := by decide
-- R89: HOP and OP by one word
theorem test_word_over_two_registers : let s := after State.reset (.wrW 0xFF8A3A 0x0203)
    s.blit.hop = 2 ∧ s.blit.op = 3 := by decide
-- V9
theorem test_source_address_low_half :
    (after (withBlit fun b => { b with srcAddr := 0x010000 }) (.wrW 0xFF8A26 0x0001)).blit.srcAddr = 0x010000 := by
  decide
theorem test_source_address_high_half : (after State.reset (.wrW 0xFF8A24 0x0001)).blit.srcAddr = 0x010000 := by decide
/-- Reset under a configuration with other widths of the bus. -/
def withWidths (addrBits dataBits : Nat) : State :=
  { State.reset with cfg := { Config.default with addrBits := addrBits, dataBits := dataBits } }

-- R6, R80, R202: bits at or above ADDR_BITS do not exist; the latch holds DATA_BITS bits (entry 2)
theorem test_address_bits_that_do_not_exist :
    (after (withWidths 24 16) (.wrW 0xFF8A24 0x8001)).blit.srcAddr = 0x00010000 ∧
    (after (withWidths 32 16) (.wrW 0xFF8A24 0x8001)).blit.srcAddr = 0x80010000 := by decide
theorem test_data_latch_width : (after (withWidths 24 8) (.wrW 0x001000 0x1234)).bus.dataLatch = 0x0034 ∧
    (after (withWidths 24 8) (.wrW 0x001000 0x1234)).mem = [(0x1000, 0x12), (0x1001, 0x34)] := by decide
-- V9a
theorem test_increment_is_even : (after State.reset (.regBlitSrcXinc (.wr (.both 0xFFFF)))).blit.srcXinc = 0xFFFE := by
  decide
-- V9b
theorem test_odd_word_write : (after State.reset (.wrW 0x001001 0x1234)).mem = [] ∧
    lastReport (after State.reset (.wrW 0x001001 0x1234)) = some (.turned .oddAddress) := by decide
theorem test_write_ram_word : (after State.reset (.wrW 0x001000 0x1234)).mem = [(0x1000, 0x12), (0x1001, 0x34)] := by
  decide
theorem test_write_ram_byte : (after withRam (.wrB 0x001001 0x99)).mem = [(0x1000, 0x12), (0x1001, 0x99)] := by decide
-- R340, its example
theorem test_iack : let s := after (withMfp fun m => { m with vr := 0x48, ipr := 0x2100, imr := 0xFFFF }) (.iack 6)
    lastReport s = some (.vectored 0x4D 6) ∧ s.mfp.ipr = 0x0100 ∧ s.mfp.isr = 0x2000 := by decide
-- V55
theorem test_iack_spurious : let s := after (withMfp fun m => { m with ipr := 0x0040 }) (.iack 6)
    lastReport s = some (.spurious 24 6) ∧ s.mfp.ipr = 0x0040 := by decide
-- V29
theorem test_gpio_rising : (after (withMfp fun m => { m with aer := 0x10, ier := 0x40, ext := 0x00 })
    (.gpio 4 true)).mfp.ipr = 0x0040 := by decide
-- V26a
theorem test_gpio_output_line : (after (withMfp fun m => { m with ddr := 0x01, ier := 0xFFFF, ext := 0xC7 })
    (.gpio 0 false)).mfp.ipr = 0 := by decide
-- R309, its example
theorem test_int_12 : (after (withMfp fun m => { m with ier := 0x1000 }) (.int 12)).mfp.ipr = 0x1000 := by decide
-- R335
theorem test_tai_counts_to_zero :
    let s := after (withMfp fun m => { m with aer := 0x10, ier := 0x2000, ta := ⟨8, 7, 1, 0⟩ }) (.tai true)
    s.mfp.ta.cnt = 7 ∧ s.mfp.ipr = 0x2000 := by decide
-- V37
theorem test_dbin_sixteenth_byte :
    let s := after (withDma fun d => { d with sectorCount := 2, idx := 15 }) (.dbin 0x0F)
    s.dma.buf0[15] = 0x0F ∧ s.dma.active = 1 ∧ s.dma.idx = 0 ∧ s.dma.otherFull = true ∧
    pendingStep s = some .grantDma := by decide
-- V38
theorem test_dbin_overrun :
    let s := after (withDma fun d => { d with sectorCount := 1, idx := 16, otherFull := true }) (.dbin 0x55)
    s.dma.err = true ∧ s.dma.idx = 16 := by decide
-- V41
theorem test_dbout_from_the_top :
    lastReport (after (withDma fun d => { d with mode := 0x0100, buf0 := (Vector.replicate 16 0).set 15 0xA1 })
      .dbout) = some (.diskByte (some 0xA1)) := by decide
-- V42
theorem test_dbout_underrun : (after (withDma fun d => { d with mode := 0x0100, idx := 16 }) .dbout).dma.err = true := by
  decide
-- V52
theorem test_cold_reset : (after (atTime withRam 777) .resetC).sched = State.reset.sched ∧
    (after (atTime withRam 777) .resetC).mem = [] := by decide
-- V51
theorem test_warm_reset : let s := after (atTime withRam 5000) .resetW
    s.sched.now = 5000 ∧ (s.slot .vidLine).due = some 5508 ∧ (s.slot .vidHb).due = some 5372 ∧ s.mem = withRam.mem := by
  decide
-- V53
theorem test_restore_bad_phase :
    let d := takeDump State.reset
    let s := after State.reset (.restore (some { d with blit := { d.blit with phase := 6, busy := true } }))
    s.blit.busy = false ∧ s.blit.phase = 0 ∧ s.out.trace = [(0, .invalidState .blitter)] := by decide
-- R486, R523: a video unit past its last line goes to its reset state, NTSC_60
theorem test_restore_bad_line :
    let d := takeDump (atTime State.reset 1000)
    let s := after State.reset (.restore (some { d with vid := { d.vid with sync := 2, shiftMode := 1, line := 400 } }))
    s.vid = { State.reset.vid with lineStart := 1000 } ∧ (s.slot .vidLine).due = some 1508 ∧
    s.out.trace = [(1000, .invalidState .video)] := by decide
-- V54, at the reset state
theorem test_snapshot_round_trip : after State.reset (.restore (some (takeDump State.reset))) = State.reset := by decide
-- V2
theorem test_schedule_twice :
    let s := after (after { State.reset with sched := { State.reset.sched with seqNext := 5 } }
      (.schedule .ta (some 2000))) (.schedule .ta (some 2400))
    s.slot .ta = ⟨some 2400, 6, true⟩ ∧ s.sched.seqNext = 7 := by decide
-- V1
set_option maxRecDepth 4000 in
theorem test_advance_clears_due_slots :
    let s := after (dueAt (dueAt (atTime State.reset 12) .ta 10 4) .blitResume 7 9) .advance
    fireEnabled s = false ∧ (s.slot .blitResume).due = none := by decide
theorem test_request_bus : (after State.reset (.requestBus .blit 12)).blit.request = true := by decide
theorem test_idle : (after State.reset (.idle 32)).bus.cpuIdle = 32 ∧ (after State.reset (.idle 32)).sched.now = 32 := by
  decide
theorem test_set_gpio_bit : (after (withMfp fun m => { m with ier := 0x0008, ext := 0x08 })
    (.setGpioBit 3 false)).mfp.ipr = 0x0008 := by decide
-- V50
theorem test_push_into_full_fifo :
    (after { State.reset with snd := ⟨[1, 2, 3, 4], 0, true, 0⟩ } (.pushSample 5)).snd.fifo = [1, 2, 3, 4] := by decide
-- V3: re-armed at 130 + 50, not at 200
theorem test_fire_timer : let s := after (dueAt (atTime (withMfp fun m => { m with ta := ⟨2, 5, 0, 0⟩ }) 150) .ta 130 0) .fire
    (s.slot .ta).due = some 180 := by decide
-- V44
theorem test_fire_drain_repeats :
    (after (dueAt { State.reset with snd := ⟨[], 0x1111, true, 0⟩ } .sndDrain 0 7) .fire).out.samples = [0x1111] := by
  decide
theorem test_grant_dma : (after (withDma fun d => { d with sectorCount := 1, otherFull := true }) .grantDma).bus.burstLeft
    = 8 := by decide
-- V14, V21: no PRIME without FXSR
theorem test_grant_blit : (after (withBlit fun b => { b with request := true }) .grantBlit).blit.phase = 2 := by decide

/-- A blitter that owns the bus, in a phase, at its last word. -/
def blitting (p : BitVec 3) : State :=
  { withRam with owner := .blit, blit := { State.reset.blit with
      phase := p, busy := true, srcAddr := 0x1000, dstAddr := 0x1000, srcXinc := 2, op := 3, hop := 2
      endmask1 := 0xFFFF, xCount := 1, xReload := 1, yCount := 1, timeout := 64, srcbuf := 0x12345678 } }

/-- A burst with some words left. -/
def bursting (dir : Bool) (left : Nat) : State :=
  { withRam with owner := .dma, bus := { State.reset.bus with burstLeft := left }, dma := { State.reset.dma with
      mode := if dir then 0x0100 else 0, sectorCount := 1, byteCnt := 496, addr := 0x1000
      buf1 := (Vector.replicate 16 0).set 14 0xAB } }

-- V16
theorem test_blit_source_shifts : (after (blitting 2) .blitPhase).blit.srcbuf = 0x56781234 := by decide
-- R229, R231: the last word ends the blit; OP 3 writes the source word
theorem test_blit_last_word : let s := after (blitting 4) .blitPhase
    s.mem = [(0x1000, 0x56), (0x1001, 0x78)] ∧ s.blit.busy = false ∧ s.blit.done = true ∧ s.owner = .cpu := by decide
-- R404, R405
theorem test_dma_last_word : let s := after (bursting false 1) .dmaWord
    s.mem = [(0x1000, 0xAB), (0x1001, 0)] ∧ s.dma.sectorCount = 0 ∧ s.dma.byteCnt = 0 ∧ s.owner = .cpu := by decide
theorem test_dma_reversed_fill : let s := after (bursting true 8) .dmaWord
    s.dma.buf1[15] = 0x12 ∧ s.dma.buf1[14] = 0x34 ∧ s.dma.addr = 0x1002 := by decide
-- V20
theorem test_read_ctrl : lastReport (after (withBlit fun b => { b with hog := true, line := 5 }) .regBlitCtrlRead) =
    some (.data .byte 0x45) := by decide
-- V22
theorem test_ctrl_restart :
    let s := after (dueAt (withBlit fun b => { b with busy := true }) .blitResume 588 0) (.regBlitCtrlWrite 0x80)
    s.blit.request = true ∧ s.blit.timeout = 64 ∧ (s.slot .blitResume).due = none := by decide
-- V23
theorem test_ctrl_abort :
    let s := after { (withBlit fun b => { b with busy := true }) with
      mfp := { State.reset.mfp with ext := 0x08, ier := 0x0008 } } (.regBlitCtrlWrite 0x00)
    s.blit.busy = false ∧ s.mfp.ipr = 0x0008 := by decide
-- V26
theorem test_read_gpip : lastReport (after (withMfp fun m => { m with ddr := 0x01, ext := 0xC7 }) (.regMfpGpip .rd)) =
    some (.data .byte 0x00C6) := by decide
-- V31
theorem test_disable_clears_pending :
    (after (withMfp fun m => { m with ier := 0x0040, ipr := 0x0040 }) (.regMfpIerb (.wr 0))).mfp.ipr = 0 := by decide
-- V32
theorem test_pending_cannot_be_set :
    (after (withMfp fun m => { m with ipr := 0x2040 }) (.regMfpIprb (.wr 0xBF))).mfp.ipr = 0x2000 ∧
    (after (withMfp fun m => { m with ipr := 0x2040 }) (.regMfpIpra (.wr 0xFF))).mfp.ipr = 0x2040 := by decide
-- V33
theorem test_vr_without_s : let s := after (withMfp fun m => { m with isr := 0x2040 }) (.regMfpVr (.wr 0x47))
    s.mfp.vr = 0x40 ∧ s.mfp.isr = 0 := by decide
-- V25
theorem test_tcdcr_starts_c :
    let s := after (atTime (withMfp fun m => { m with tc := ⟨0, 100, 100, 0⟩ }) 56) (.regMfpTcdcr (.wr 0x10))
    (s.slot .tc).due = some 456 ∧ (s.slot .td).due = none := by decide
-- V27a
theorem test_same_divider_keeps_due :
    (after (dueAt (atTime (withMfp fun m => { m with ta := ⟨2, 200, 0, 0⟩ }) 300) .ta 480 0)
      (.regMfpTacr (.wr 0x02))).slot .ta = ⟨some 480, 0, true⟩ := by decide
-- R330: another divider keeps the count (18) and restarts the prescaler
theorem test_other_divider :
    ((after (dueAt (atTime (withMfp fun m => { m with ta := ⟨2, 200, 0, 0⟩ }) 300) .ta 480 0)
      (.tmDiv4 .a)).slot .ta).due = some 372 := by decide
-- V28
theorem test_read_live_counter :
    lastReport (after (dueAt (atTime (withMfp fun m => { m with ta := ⟨2, 200, 0, 0⟩ }) 20) .ta 2016 0)
      (.regMfpTadr .rd)) = some (.data .byte 0x00C8) := by decide
-- V35
theorem test_reserved_mode_stops : let s := after (withMfp fun m => { m with ta := ⟨8, 1, 9, 0⟩ }) (.tmRsv11 .a)
    s.mfp.ta.ctrl = 11 ∧ s.mfp.ta.cnt = 9 ∧ (s.slot .ta).due = none := by decide
-- V43
theorem test_dma_address_low :
    (after (withDma fun d => { d with addr := 0x030000 }) (.regDmaAddrLo (.wr 0x01))).dma.addr = 0x030000 := by decide
-- V43a
theorem test_direction_change : let s := after { (withDma fun d => { d with mode := 0x0010, sectorCount := 2 }) with
      mfp := { State.reset.mfp with ext := 0x20, ier := 0x0080 } } (.regDmaMode (.both 0x0110))
    s.dma.sectorCount = 0 ∧ s.dma.idx = 16 ∧ s.mfp.ipr = 0x0080 := by decide
-- R383, its example
theorem test_status_after_reset : lastReport (after State.reset (.regDmaStatus .both)) = some (.data .word 0x0002) := by
  decide
-- V45
theorem test_palette_write :
    let s := after { State.reset with vid := { State.reset.vid with line := 1 } }
      (.regVidPaletteWrite 0 (.both 0xF700))
    s.vid.palette[0] = 0x0700 ∧ s.out.video = [(0, .paletteChange 1 0 0 0x0700)] := by decide
-- R440: the record carries ptr, 22 at x = 100 of a PAL_50 line
theorem test_record_carries_ptr :
    (after { atTime State.reset 100 with vid := { State.reset.vid with bounds := ⟨512, 56, 376, 376, true⟩ } }
      (.regVidHscroll (.wr 5))).out.video = [(22, .scrollChange 0 100 5)] := by decide
-- R457
theorem test_sound_on : ((after State.reset (.regSndSndCtrl (.wr 1))).slot .sndDrain).due = some 1280 := by decide
theorem test_sound_code_off : ((after (dueAt { State.reset with snd := ⟨[], 0, true, 0⟩ } .sndDrain 99 0)
    .sndOff).slot .sndDrain).due = none := by decide
-- R430, R447: RES 3 selects MONO_71
theorem test_reserved_resolution : videoMode (after State.reset .resRsv3).vid = .mono71 := by decide
theorem test_frequency_code : videoMode (after State.reset .freq50).vid = .pal50 := by decide
-- V10: the 16 operations on x = 0xCCCC, d = 0xAAAA
theorem test_logic_table : (List.range 16).map (fun n => logicOp (BitVec.ofNat 4 n) 0xCCCC 0xAAAA) =
    [0x0000, 0x8888, 0x4444, 0xCCCC, 0x2222, 0xAAAA, 0x6666, 0xEEEE,
     0x1111, 0x9999, 0x5555, 0xDDDD, 0x3333, 0xBBBB, 0x7777, 0xFFFF] := by decide
-- V15
theorem test_halftone_operations : (List.range 4).map (fun n => hopValue (BitVec.ofNat 2 n) 0x00FF 0x3333) =
    [0xFFFF, 0x3333, 0x00FF, 0x0033] := by decide
-- V47
theorem test_scanline_pointer : [55, 56, 59, 60, 100, 375, 376, 400].map (fun x =>
    scanPtr { atTime State.reset x with vid := { State.reset.vid with bounds := ⟨512, 56, 376, 376, true⟩ } }) =
    [0, 0, 0, 2, 22, 158, 160, 160] := by decide
-- a word placed by the host is the next step
theorem test_placed_word : (match step (State.reset.withFetchWord 8 0x0C) with
    | .next t => decide (t = after State.reset .resetW)
    | _ => false) = true := by decide


/-! ### Witnesses: states and operands that meet the hypotheses of each statement, clause by clause -/

/-- Reset, with commands waiting. -/
def waiting (l : List Request) : State := { State.reset with inbox := l }

/-- Reset, with a slot due at once. -/
def due : State := dueAt State.reset .ta 0 9

/-- A state that meets `Obligations.StepRunsTheDecodedCommand` for RESET.W, and one for RUN. -/
theorem witness_StepRunsTheDecodedCommand :
    (let s := { due with inbox := [⟨⟨.cmd, [0x0C], none⟩, 0⟩] }
     decode ⟨.cmd, [0x0C], none⟩ = .ok .resetW ∧ turnCome s ⟨⟨.cmd, [0x0C], none⟩, 0⟩ = true ∧
     mayTake s (takenWhen .resetW) = true) ∧
    (let r : Request := ⟨⟨.cmd, [0x00, 0, 0, 0, 1], none⟩, 7⟩
     decode r.packet = .ok (.run 1) ∧ turnCome (waiting [r]) r = true ∧
     mayTake (waiting [r]) (takenWhen (.run 1)) = true) := by decide

theorem witness_StepWithoutACommand :
    (due.inbox = [] ∧ pendingStep due = some .fire) ∧
    (State.reset.inbox = [] ∧ pendingStep State.reset = none) ∧
    (turnCome due ⟨⟨.cmd, [0x0C], none⟩, 1⟩ = false ∧ pendingStep due = some .fire) ∧
    (let r : Request := ⟨⟨.cmd, [0x00, 0, 0, 0, 1], none⟩, 0⟩
     turnCome due r = true ∧ decode r.packet = .ok (.run 1) ∧ mayTake due (takenWhen (.run 1)) = false) ∧
    (turnCome State.reset ⟨⟨.cmd, [], none⟩, 0⟩ = true ∧ decode ⟨.cmd, [], none⟩ = .error .empty) := by decide

theorem witness_PlacedWordRuns :
    (decodeTableWord 8 0x0C = some .resetW ∧ mayTake due (takenWhen .resetW) = true) ∧
    (decodeTableWord 24 0xFFFA17 = some (.regMfpVr .rd) ∧
      mayTake State.reset (takenWhen (.regMfpVr .rd)) = true) := by decide

theorem witness_StepPriorities :
    pendingStep due = some .fire ∧ pendingStep (bursting false 1) = some .dmaWord ∧
    pendingStep (blitting 2) = some .blitPhase ∧
    pendingStep (withDma fun d => { d with sectorCount := 1, otherFull := true }) = some .grantDma ∧
    pendingStep (withBlit fun b => { b with request := true }) = some .grantBlit ∧
    cpuEnabled State.reset = true := by decide

theorem witness_DecodeAfterEncode :
    (Instr.wf (.run 0xFFFFFFFF) = true ∧ encode (.run 0xFFFFFFFF) = some ⟨.cmd, [0, 0xFF, 0xFF, 0xFF, 0xFF], none⟩) ∧
    (Instr.wf (.int 9) = true ∧ encode (.int 9) = some ⟨.cmd, [7, 9], none⟩) ∧
    (Instr.wf (.schedule .ta none) = true ∧ (encode (.schedule .ta none)).isSome = true) := by decide

theorem witness_EncodeAfterDecode : decode ⟨.cmd, [0x08, 0x00], none⟩ = .ok (.tai false) := by decide

set_option maxRecDepth 4000 in
theorem witness_UnlistedEncodingsRefused :
    0x0E < (0x0F : Byte).toNat ∧ (0x0F : Byte).toNat < 0x10 ∧ 0x15 < (0x16 : Byte).toNat ∧ (3 : Byte).toNat < 4 ∧
    (∀ (b : Bank) (o : Nat), o < bankSize b → regAt b o ≠ none →
      mkAddr 0xFF 0x82 0x09 ≠ addrAt (bankBase Config.default b) o) := by
  refine ⟨by decide, by decide, by decide, by decide, fun b => ?_⟩
  cases b <;> decide

theorem witness_RegisterRowsAreBusAccesses :
    State.reset.cfg.remap = [] ∧ 24 ≤ State.reset.cfg.addrBits ∧ (∀ b : Bank, bankBase State.reset.cfg b = bankBase Config.default b) ∧
    decode ⟨.reg, [0xFF, 0xFA, 0x17, 0, 0, 0], none⟩ = .ok (.regMfpVr .rd) ∧
    decode ⟨.reg, [0xFF, 0x8A, 0x20, 1, 0, 0], none⟩ = .ok (.regBlitSrcXinc (.rd .both)) ∧
    decode ⟨.reg, [0xFF, 0x8A, 0x21, 2, 0, 0x5A], none⟩ = .ok (.regBlitSrcXinc (.wr (.lo 0x5A))) ∧
    decode ⟨.reg, [0xFF, 0x8A, 0x20, 3, 0x12, 0x34], none⟩ = .ok (.regBlitSrcXinc (.wr (.both 0x1234))) :=
  ⟨rfl, by decide, fun _ => rfl, by decide, by decide, by decide, by decide⟩

theorem witness_CommandsTurnedAwayHaveNoEffect :
    (cpuEnabled due = false ∧ takenWhen (.run 1) = .cpu ∧ takenWhen (.regMfpVr .rd) = .cpu) ∧
    (cpuEnabled State.reset = true ∧ (0x001001 : Addr).toNat % 2 = 1 ∧ (5 : BitVec 3) ≠ State.reset.cfg.mfpIpl) ∧
    (fireEnabled State.reset = false ∧ (8 : BitVec 4).toNat < 9 ∧ 12 < (13 : BitVec 4).toNat ∧
      State.reset.dma.mode.getLsbD 8 = false) ∧
    (fireEnabled (bursting true 8) = false ∧ (bursting true 8).dma.mode.getLsbD 8 = true) ∧
    (fireEnabled due = true ∧ takenWhen .dbout = .environment) ∧
    pendingStep State.reset ≠ some .fire ∧
    ({ takeDump State.reset with cfg := { Config.default with tBerr := 4 } } : Dump).cfg ≠ State.reset.cfg := by decide

theorem witness_RunAddsItsTicks : cpuEnabled State.reset = true ∧ 0 < 1 := by decide

theorem witness_ReadOfRam : cpuEnabled State.reset = true ∧
    regionOf State.reset.cfg (remapAddr State.reset.cfg (onBus State.reset.cfg 0)) = .ram ∧ (0 : Addr).toNat % 2 = 0 ∧
    regionOf State.reset.cfg (remapAddr State.reset.cfg (onBus State.reset.cfg 0x0FFFFE)) = .ram ∧ (0x0FFFFE : Addr).toNat % 2 = 0 ∧
    regionOf State.reset.cfg (remapAddr State.reset.cfg (onBus State.reset.cfg 0x0FFFFF)) = .ram := by decide

theorem witness_WriteOfRam : cpuEnabled withRam = true ∧
    regionOf withRam.cfg (remapAddr withRam.cfg (onBus withRam.cfg 0x1000)) = .ram ∧ (0x1000 : Addr).toNat % 2 = 0 ∧
    regionOf withRam.cfg (remapAddr withRam.cfg (onBus withRam.cfg 0x0FFFFF)) = .ram := by decide

theorem witness_CpuBusErrorIsTaken : cpuEnabled State.reset = true ∧
    regionOf State.reset.cfg (remapAddr State.reset.cfg (onBus State.reset.cfg 0x100000)) = .none ∧ (0x100000 : Addr).toNat % 2 = 0 ∧
    regionOf State.reset.cfg (remapAddr State.reset.cfg (onBus State.reset.cfg 0xFFFFFF)) = .none := by decide

/-- Reset, with a device at 0x200000 and some answers fixed. -/
def withDevice (answers : List Word) : State := { State.reset with
  cfg := { Config.default with extRegions := [⟨0x200000, 2⟩] }, env := { Env.empty with ext := answers } }

theorem witness_DeviceAccesses :
    (let s := withDevice [0xBEEF]
     s.cfg.wf = true ∧ cpuEnabled s = true ∧ regionOf s.cfg (remapAddr s.cfg (onBus s.cfg 0x200000)) = .ext ∧
     (0x200000 : Addr).toNat % 2 = 0 ∧ s.env.ext.head? = some 0xBEEF) ∧
    (let s := withDevice []
     cpuEnabled s = true ∧ regionOf s.cfg (remapAddr s.cfg (onBus s.cfg 0x200001)) = .ext ∧ s.env.ext = []) := by
  decide

theorem witness_IackDispatchesOrIsSpurious :
    (let s := withMfp fun m => { m with ipr := 0x8001, imr := 0x0001 }
     cpuEnabled s = true ∧ eligible s.cfg s.mfp 0 = true ∧
     ∀ x : BitVec 4, (0 : BitVec 4).toNat < x.toNat → eligible s.cfg s.mfp x = false) ∧
    (let s := withMfp fun m => { m with ipr := 0x8001, imr := 0x8001 }
     cpuEnabled s = true ∧ eligible s.cfg s.mfp 15 = true ∧
     ∀ x : BitVec 4, (15 : BitVec 4).toNat < x.toNat → eligible s.cfg s.mfp x = false) ∧
    (cpuEnabled State.reset = true ∧ irqOut State.reset = false) := by decide

/-- Reset, with the latched bounds of a picture line, at a time. -/
def onPictureLine (x : Nat) : State :=
  { atTime State.reset x with vid := { State.reset.vid with bounds := ⟨508, 52, 372, 372, true⟩ } }

theorem witness_SignalsOfTheState :
    (onPictureLine 51).sched.now - (onPictureLine 51).vid.lineStart < (onPictureLine 51).vid.bounds.winStart ∧
    State.reset.vid.bounds.pic = false ∧
    ((onPictureLine 52).vid.bounds.pic = true ∧ 52 ≤ (onPictureLine 52).sched.now ∧ (onPictureLine 52).sched.now < 372) ∧
    ((onPictureLine 372).vid.bounds.pic = true ∧
      (onPictureLine 372).vid.bounds.winEnd ≤ (onPictureLine 372).sched.now - (onPictureLine 372).vid.lineStart) := by
  decide

theorem witness_LinesAndInternalLines : fireEnabled State.reset = false ∧
    (0 : BitVec 3) ≠ State.reset.cfg.blitGpio ∧ (0 : BitVec 3) ≠ State.reset.cfg.dmaGpio ∧
    (7 : BitVec 3) ≠ State.reset.cfg.blitGpio ∧ (7 : BitVec 3) ≠ State.reset.cfg.dmaGpio ∧
    9 ≤ (9 : BitVec 4).toNat ∧ (12 : BitVec 4).toNat ≤ 12 := by decide

theorem witness_TimerAInputCounts :
    (let s := withMfp fun m => { m with aer := 0x10, ta := ⟨8, 7, 2, 0⟩ }
     fireEnabled s = false ∧ s.mfp.tai ≠ true ∧ true = s.mfp.aer.getLsbD 4 ∧ s.mfp.ta.ctrl = 8 ∧ s.mfp.ta.cnt - 1 ≠ 0) ∧
    (let s := withMfp fun m => { m with tai := true, ta := ⟨8, 7, 1, 0⟩ }
     fireEnabled s = false ∧ s.mfp.tai ≠ false ∧ false = s.mfp.aer.getLsbD 4 ∧ s.mfp.ta.ctrl = 8 ∧ s.mfp.ta.cnt - 1 = 0) ∧
    (fireEnabled State.reset = false ∧ State.reset.mfp.tai = false) := by decide

theorem witness_DiskBytes :
    (fireEnabled State.reset = false ∧ State.reset.dma.mode.getLsbD 8 = false ∧ State.reset.dma.sectorCount = 0) ∧
    (let s := withDma fun d => { d with sectorCount := 1, idx := 16 }
     fireEnabled s = false ∧ s.dma.mode.getLsbD 8 = false ∧ s.dma.sectorCount ≠ 0 ∧ s.dma.idx = 16) ∧
    (let s := withDma fun d => { d with sectorCount := 1, idx := 14 }
     s.dma.mode.getLsbD 8 = false ∧ s.dma.sectorCount ≠ 0 ∧ s.dma.idx < 15) ∧
    (let s := withDma fun d => { d with sectorCount := 1, idx := 15, otherFull := true }
     s.dma.mode.getLsbD 8 = false ∧ s.dma.sectorCount ≠ 0 ∧ s.dma.idx = 15 ∧ s.dma.otherFull = true) ∧
    (let s := withDma fun d => { d with sectorCount := 1, idx := 15 }
     s.dma.mode.getLsbD 8 = false ∧ s.dma.sectorCount ≠ 0 ∧ s.dma.idx = 15 ∧ s.dma.otherFull = false) ∧
    (let s := withDma fun d => { d with mode := 0x0100, idx := 16 }
     fireEnabled s = false ∧ s.dma.mode.getLsbD 8 = true ∧ s.dma.idx = 16) ∧
    (let s := withDma fun d => { d with mode := 0x0100, idx := 14 }
     fireEnabled s = false ∧ s.dma.mode.getLsbD 8 = true ∧ s.dma.idx < 15) ∧
    (let s := withDma fun d => { d with mode := 0x0100, idx := 15, otherFull := true }
     fireEnabled s = false ∧ s.dma.mode.getLsbD 8 = true ∧ s.dma.idx = 15 ∧ s.dma.otherFull = true) := by decide

theorem witness_StateAfterReset : (atTime withRam 5000).cfg = Config.default ∧
    (withDevice []).cfg ≠ Config.default := by decide

theorem witness_RestoreOfASnapshot :
    (Inv (blitting 3) ∧ (blitting 3).blit.timeout ≤ (blitting 3).cfg.blitSlice ∧ (blitting 3).owner = .blit ∧
      (blitting 3).vid.line < (videoTiming (blitting 3).cfg (videoMode (blitting 3).vid)).lines ∧
      (atTime withRam 5000).mem = (blitting 3).mem ∧ (atTime withRam 5000).cfg = (blitting 3).cfg) ∧
    (Inv State.reset ∧ State.reset.blit.phase = phaseIdle) := by decide

theorem witness_RestoreOfAnyDumpIsWellFormed :
    withRam.cfg.wf = true ∧ withRam.mem.wf = true ∧ (takeDump (atTime State.reset 9)).cfg = withRam.cfg := by decide

theorem witness_RestoreRecoversBadUnits :
    (let d := takeDump (withBlit fun b => { b with phase := 5 })
     d.cfg = State.reset.cfg ∧ 4 < d.blit.phase.toNat) ∧
    (let d := takeDump (withBlit fun b => { b with timeout := 65 })
     d.cfg = State.reset.cfg ∧ State.reset.cfg.blitSlice < d.blit.timeout) ∧
    (let d := takeDump (blitting 0)
     d.cfg = State.reset.cfg ∧ d.owner = some .blit ∧ d.blit.phase = 0) ∧
    (let d := takeDump (withBlit fun b => { b with phase := 4 })
     d.cfg = State.reset.cfg ∧ d.owner ≠ some .blit ∧ d.blit.phase ≠ 0) ∧
    (let d := { takeDump (bursting true 9) with owner := none }
     d.cfg = State.reset.cfg ∧ d.owner = none ∧ 8 < d.bus.burstLeft) ∧
    (let d := takeDump (bursting true 0)
     d.cfg = State.reset.cfg ∧ ¬ (d.owner = some .dma ↔ 0 < d.bus.burstLeft)) ∧
    (let d := takeDump (withDma fun d => { d with idx := 17, byteCnt := 512, active := 2 })
     d.cfg = State.reset.cfg ∧ 16 < d.dma.idx ∧ 512 ≤ d.dma.byteCnt ∧ 1 < d.dma.active) ∧
    (let d := takeDump (withDma fun d => { d with byteCnt := 1 })
     d.cfg = State.reset.cfg ∧ d.dma.byteCnt % 16 ≠ 0) ∧
    (let d := takeDump { State.reset with snd := ⟨[1, 2, 3, 4, 5], 0, true, 0⟩ }
     d.cfg = State.reset.cfg ∧ 4 < d.snd.fifo.length) ∧
    (let d := takeDump { State.reset with vid := { State.reset.vid with line := 263 } }
     d.cfg = State.reset.cfg ∧ (videoTiming State.reset.cfg (videoMode d.vid)).lines ≤ d.vid.line) ∧
    (let d := takeDump { State.reset with vid := { State.reset.vid with bounds := ⟨0, 0, 0, 0, false⟩ } }
     d.cfg = State.reset.cfg ∧ boundsOk d.vid.bounds = false) := by decide

/-- A dump of another configuration, whose picture starts at line 0, at a state of that configuration. -/
theorem witness_RestoreRecoversBadUnits_picture :
    let c := { Config.default with vtNtsc60 := ⟨508, 52, 372, 372, 263, 0, 233⟩ }
    let d := takeDump { State.reset with cfg := c, vid := { State.reset.vid with line := 263 } }
    c.wf = true ∧ d.cfg = c ∧ c.vtNtsc60.picFirst ≤ 0 ∧ (videoTiming c (videoMode d.vid)).lines ≤ d.vid.line := by
  decide

theorem witness_NarrowCalls :
    ({ State.reset with snd := ⟨[1, 2, 3, 4], 0, true, 0⟩ } : State).snd.fifo.length = 4 ∧
    State.reset.snd.fifo.length ≠ 4 ∧ SlotId.ta ≠ .tb := by decide

theorem witness_AdvanceEnds : State.reset.cfg.wf = true ∧ due.cfg.wf = true := by decide

theorem witness_FireTakesTheLeastDueEvent :
    let s := dueAt (dueAt (atTime State.reset 1000) .tb 10 7) .ta 10 8
    (s.slot .tb).due = some 10 ∧ 10 ≤ s.sched.now ∧
    ∀ (x : SlotId) (e : Nat), x ≠ .tb → (s.slot x).due = some e →
      10 < e ∨ (10 = e ∧ (s.slot .tb).seq < (s.slot x).seq) := by
  refine ⟨by decide, by decide, fun x e hx he => ?_⟩
  cases x
  case tb => exact absurd rfl hx
  case ta => exact .inr ⟨(Option.some.inj he).symm ▸ rfl, by decide⟩
  case vidLine => exact .inl ((Option.some.inj he) ▸ (by decide : 10 < 508))
  case vidHb => exact .inl ((Option.some.inj he) ▸ (by decide : 10 < 372))
  all_goals cases he

theorem witness_TimerAndResumeCallbacks :
    timerClass (timerGet (withMfp fun m => { m with ta := ⟨1, 0, 0, 0⟩ }).mfp .a).ctrl = .delay 4 ∧
    timerClass (timerGet (withMfp fun m => { m with td := ⟨7, 255, 0, 0⟩ }).mfp .d).ctrl = .delay 200 ∧
    ((withBlit fun b => { b with busy := true }).blit.busy = true ∧
      (withBlit fun b => { b with busy := true }).blit.request = false) ∧
    State.reset.blit.busy = false := by decide

theorem witness_DisplayEnableCallbacks :
    (let s := withMfp fun m => { m with aer := 0x08, tb := ⟨8, 7, 2, 0⟩ }
     s.mfp.tbi ≠ true ∧ true = s.mfp.aer.getLsbD 3 ∧ s.mfp.tb.ctrl = 8 ∧ s.mfp.tb.cnt - 1 ≠ 0) ∧
    (let s := withMfp fun m => { m with tbi := true, tb := ⟨8, 7, 1, 0⟩ }
     s.mfp.tbi ≠ false ∧ false = s.mfp.aer.getLsbD 3 ∧ s.mfp.tb.ctrl = 8 ∧ s.mfp.tb.cnt - 1 = 0) ∧
    State.reset.mfp.tb.ctrl ≠ 8 := by decide

/-- Reset, the sound unit on, with a FIFO and the samples to come. -/
def sounding (fifo samples : List Word) : State :=
  { State.reset with snd := ⟨fifo, 0, true, 0⟩, env := { Env.empty with samples := samples } }

theorem witness_SoundCallbacks : State.reset.snd.en = false ∧
    ((sounding [] [1, 2, 3, 4]).snd.en = true ∧ (sounding [] [1, 2, 3, 4]).snd.fifo.length ≤ 4) ∧
    ((sounding [9] [1]).snd.en = true ∧ (sounding [9] [1]).snd.fifo.length ≤ 4 ∧
      (sounding [9] [1]).env.samples.length < 4 - (sounding [9] [1]).snd.fifo.length) ∧
    ((sounding [1, 2, 3, 4] []).snd.en = true ∧ (sounding [1, 2, 3, 4] []).snd.fifo.length ≤ 4) ∧
    (sounding [1] []).snd.fifo = [1] ∧ (sounding [] []).snd.fifo = [] := by decide

theorem witness_GrantsOfTheBus :
    pendingStep (withDma fun d => { d with sectorCount := 1, otherFull := true }) = some .grantDma ∧
    pendingStep (withBlit fun b => { b with request := true, fxsr := true }) = some .grantBlit := by decide

theorem witness_BlitReadingPhases :
    ∃ t, pendingStep (blitting 1) = some .blitPhase ∧ (blitting 1).blit.phase = 1 ∧
      Fetched (blitting 1) .blit (blitting 1).blit.srcAddr 0x1234 t :=
  ⟨_, by decide, by decide, .inl ⟨by decide, by decide, rfl⟩⟩

theorem witness_BlitReadingPhases_source :
    ∃ t, pendingStep (blitting 2) = some .blitPhase ∧ (blitting 2).blit.phase = 2 ∧
      Fetched (blitting 2) .blit (blitting 2).blit.srcAddr 0x1234 t :=
  ⟨_, by decide, by decide, .inl ⟨by decide, by decide, rfl⟩⟩

/-- A blitter whose addresses have no backing device. -/
def blittingAstray (p : BitVec 3) : State :=
  { blitting p with blit := { (blitting p).blit with srcAddr := 0x400000, dstAddr := 0x400000 } }

theorem witness_BlitReadingPhases_dest :
    ∃ t, pendingStep (blittingAstray 3) = some .blitPhase ∧ (blittingAstray 3).blit.phase = 3 ∧
      Fetched (blittingAstray 3) .blit (blittingAstray 3).blit.dstAddr 0 t :=
  ⟨_, by decide, by decide, .inr (.inr (.inr ⟨by decide, by decide, rfl⟩))⟩

/-- A blitter whose addresses lie in the MFP bank, at AER. -/
def blittingRegisters (p : BitVec 3) : State :=
  { blitting p with blit := { (blitting p).blit with srcAddr := 0xFFFA02, dstAddr := 0xFFFA02 } }

theorem witness_BlitReadingPhases_bank :
    ∃ t, pendingStep (blittingRegisters 3) = some .blitPhase ∧ (blittingRegisters 3).blit.phase = 3 ∧
      Fetched (blittingRegisters 3) .blit (blittingRegisters 3).blit.dstAddr 0xFF00 t :=
  ⟨_, by decide, by decide, .inr (.inl ⟨.mfp, 2, by decide, by decide, by decide, rfl⟩)⟩

/-- A blitter whose addresses lie in a device, its next answer fixed. -/
def blittingDevice (p : BitVec 3) : State :=
  { blitting p with
    cfg := (withDevice []).cfg, env := { Env.empty with ext := [0xBEEF] }
    blit := { (blitting p).blit with srcAddr := 0x200000, dstAddr := 0x200000 } }

theorem witness_BlitReadingPhases_device :
    ∃ t, pendingStep (blittingDevice 2) = some .blitPhase ∧ (blittingDevice 2).blit.phase = 2 ∧
      Fetched (blittingDevice 2) .blit (blittingDevice 2).blit.srcAddr 0xBEEF t :=
  ⟨_, by decide, by decide, .inr (.inr (.inl ⟨by decide, by decide, rfl⟩))⟩

/-- A blitter in WRITE_DEST with words, or lines, left, and some transactions left in its slice. -/
def blittingOn (x y : Word) (hog : Bool) (timeout : Nat) : State :=
  { blitting 4 with blit := { (blitting 4).blit with xCount := x, yCount := y, hog := hog, timeout := timeout } }

theorem witness_BlitWriteGoesOn_words : ∃ u, let s := blittingOn 2 1 true 1
    pendingStep s = some .blitPhase ∧ s.blit.phase = 4 ∧ Stored s .blit s.blit.dstAddr (blitOut s.blit) u ∧
    (s.blit.xCount = 1 → s.blit.yCount ≠ 1) ∧ s.blit.hog = true :=
  ⟨_, by decide, by decide, .inl ⟨by decide, rfl⟩, by decide, by decide⟩

theorem witness_BlitWriteGoesOn_slice : ∃ u, let s := blittingOn 1 2 false 2
    pendingStep s = some .blitPhase ∧ s.blit.phase = 4 ∧ Stored s .blit s.blit.dstAddr (blitOut s.blit) u ∧
    (s.blit.xCount = 1 → s.blit.yCount ≠ 1) ∧ 1 < s.blit.timeout :=
  ⟨_, by decide, by decide, .inl ⟨by decide, rfl⟩, by decide, by decide⟩

theorem witness_BlitWriteGoesOn_yield : ∃ u, let s := blittingOn 0 1 false 1
    pendingStep s = some .blitPhase ∧ s.blit.phase = 4 ∧ Stored s .blit s.blit.dstAddr (blitOut s.blit) u ∧
    (s.blit.xCount = 1 → s.blit.yCount ≠ 1) ∧ s.blit.hog = false ∧ s.blit.timeout ≤ 1 :=
  ⟨_, by decide, by decide, .inl ⟨by decide, rfl⟩, by decide, by decide, by decide⟩

theorem witness_BlitEndsAtItsLastWord : ∃ u, let s := blitting 4
    pendingStep s = some .blitPhase ∧ s.blit.phase = 4 ∧ s.blit.xCount = 1 ∧ s.blit.yCount = 1 ∧
    Stored s .blit s.blit.dstAddr (blitOut s.blit) u :=
  ⟨_, by decide, by decide, by decide, by decide, .inl ⟨by decide, rfl⟩⟩

/-- The blitter's last word stored into a register bank, into a device, and nowhere. -/
theorem witness_BlitEndsAtItsLastWord_elsewhere :
    (∃ u, Stored (blittingRegisters 4) .blit (blittingRegisters 4).blit.dstAddr (blitOut (blittingRegisters 4).blit) u) ∧
    (∃ u, Stored (blittingDevice 4) .blit (blittingDevice 4).blit.dstAddr (blitOut (blittingDevice 4).blit) u) ∧
    (∃ u, Stored (blittingAstray 4) .blit (blittingAstray 4).blit.dstAddr (blitOut (blittingAstray 4).blit) u) :=
  ⟨⟨_, .inr (.inl ⟨.mfp, 2, by decide, by decide, rfl⟩)⟩, ⟨_, .inr (.inr (.inl ⟨by decide, rfl⟩))⟩,
    ⟨_, .inr (.inr (.inr ⟨by decide, rfl⟩))⟩⟩

theorem witness_DmaWordInsideABurst_store : ∃ u, let s := bursting false 2
    pendingStep s = some .dmaWord ∧ 2 ≤ s.bus.burstLeft ∧ s.bus.burstLeft ≤ 8 ∧ s.dma.mode.getLsbD 8 = false ∧
    Stored s .dma s.dma.addr (mkWord (bufGet s.dma.buf1 12) (bufGet s.dma.buf1 13)) u :=
  ⟨_, by decide, by decide, by decide, by decide, .inl ⟨by decide, rfl⟩⟩

theorem witness_DmaWordInsideABurst_fetch : ∃ u, let s := bursting true 8
    pendingStep s = some .dmaWord ∧ 2 ≤ s.bus.burstLeft ∧ s.bus.burstLeft ≤ 8 ∧ s.dma.mode.getLsbD 8 = true ∧
    Fetched s .dma s.dma.addr 0x1234 u :=
  ⟨_, by decide, by decide, by decide, by decide, .inl ⟨by decide, by decide, rfl⟩⟩

/-- A burst whose words lie in the palette. -/
def burstingPalette (dir : Bool) (left : Nat) : State :=
  { bursting dir left with dma := { (bursting dir left).dma with addr := 0xFF8240 } }

theorem witness_DmaWordInsideABurst_bank :
    (∃ u, Stored (burstingPalette false 2) .dma 0xFF8240 0xAB00 u) ∧
    (∃ u, Fetched (burstingPalette true 8) .dma 0xFF8240 0 u) :=
  ⟨⟨_, .inr (.inl ⟨.vid, 0x40, by decide, by decide, rfl⟩)⟩,
    ⟨_, .inr (.inl ⟨.vid, 0x40, by decide, by decide, by decide, rfl⟩)⟩⟩

theorem witness_DmaBurstEnds_store : ∃ u, let s := bursting false 1
    pendingStep s = some .dmaWord ∧ s.bus.burstLeft = 1 ∧ s.dma.byteCnt ≤ 496 ∧ s.dma.mode.getLsbD 8 = false ∧
    Stored s .dma s.dma.addr (mkWord (bufGet s.dma.buf1 14) (bufGet s.dma.buf1 15)) u :=
  ⟨_, by decide, by decide, by decide, by decide, .inl ⟨by decide, rfl⟩⟩

theorem witness_DmaBurstEnds_fetch : ∃ u, let s := bursting true 1
    pendingStep s = some .dmaWord ∧ s.bus.burstLeft = 1 ∧ s.dma.byteCnt ≤ 496 ∧ s.dma.mode.getLsbD 8 = true ∧
    Fetched s .dma s.dma.addr 0x1234 u :=
  ⟨_, by decide, by decide, by decide, by decide, .inl ⟨by decide, by decide, rfl⟩⟩

/-- The register accesses ask only that the CPU may act: ReadsOfBlitterRegisters, WritesOfBlitterRegisters,
ReadsOfMfpRegisters, WritesOfMfpRegisters and VideoAndSoundRegisters, whose sound clauses ask for the unit on or
off. -/
theorem witness_RegisterAccesses : cpuEnabled State.reset = true ∧
    (cpuEnabled (sounding [] []) = true ∧ (sounding [] []).snd.en = true ∧ (0 : Byte).getLsbD 0 = false) ∧
    (State.reset.snd.en = false ∧ (1 : Byte).getLsbD 0 = true) := by decide

theorem witness_WriteOfBlitterControl : cpuEnabled State.reset = true ∧ State.reset.blit.busy = false ∧
    (let s := withBlit fun b => { b with busy := true }
     cpuEnabled s = true ∧ s.blit.busy = true) ∧
    (0x80 : Byte).getLsbD 7 = true ∧ (0x7F : Byte).getLsbD 7 = false := by decide

theorem witness_TimerRegisters :
    (cpuEnabled State.reset = true ∧ ∀ p, timerClass (timerGet State.reset.mfp .d).ctrl ≠ .delay p) ∧
    (let s := dueAt (withMfp fun m => { m with ta := ⟨2, 200, 0, 0⟩ }) .ta 2560 0
     cpuEnabled s = true ∧ timerClass (timerGet s.mfp .a).ctrl = .delay 10 ∧
     (s.slot (timerSlot .a)).due = some 2560 ∧ s.sched.now < 2560) :=
  ⟨⟨by decide, fun p h => by cases h⟩, by decide⟩

theorem witness_DmaModeStatusAndAddress : cpuEnabled State.reset = true ∧
    (merged (0#14 ++ BitVec.ofBool (State.reset.dma.sectorCount == 0) ++ BitVec.ofBool State.reset.dma.err)
      (.lo 0xFF)).getLsbD 8 = State.reset.dma.mode.getLsbD 8 ∧
    (merged (0#14 ++ BitVec.ofBool (State.reset.dma.sectorCount == 0) ++ BitVec.ofBool State.reset.dma.err)
      (.hi 0x01)).getLsbD 8 ≠ State.reset.dma.mode.getLsbD 8 := by decide

theorem witness_DmaDataPort :
    (let s := withDma fun d => { d with mode := 0x0010 }
     cpuEnabled s = true ∧ s.dma.mode.getLsbD 4 = true) ∧
    (let s := { State.reset with env := { Env.empty with ctrl := [0x1234] } }
     cpuEnabled s = true ∧ s.dma.mode.getLsbD 4 = false ∧ s.env.ctrl.head? = some 0x1234) ∧
    (State.reset.dma.mode.getLsbD 4 = false ∧ State.reset.env.ctrl = []) := by decide

theorem witness_DelayModeCodes :
    (TimerId.a, Instr.tmDiv4 .a, (1 : BitVec 4), 4) = (timerOfAB .a, .tmDiv4 .a, 1, 4) ∧
    (TimerId.d, Instr.tmDiv200Cd .d, (7 : BitVec 4), 200) = (timerOfCD .d, .tmDiv200Cd .d, 7, 200) ∧
    (∀ q, timerClass (timerGet State.reset.mfp .a).ctrl ≠ .delay q) ∧
    timerClass (timerGet (withMfp fun m => { m with td := ⟨7, 255, 0, 0⟩ }).mfp .d).ctrl = .delay 200 ∧
    (let s := dueAt (withMfp fun m => { m with ta := ⟨2, 200, 0, 0⟩ }) .ta 2560 0
     10 ≠ 4 ∧ timerClass (timerGet s.mfp .a).ctrl = .delay 10 ∧ (s.slot (timerSlot .a)).due = some 2560 ∧
     s.sched.now < 2560 ∧ 2560 - s.sched.now ≤ 256 * 10) :=
  ⟨by decide, by decide, (fun q h => by cases h), by decide, by decide⟩

theorem witness_StoppedAndEventModeCodes :
    (∀ q, timerClass (timerGet (withMfp fun m => { m with tb := ⟨15, 1, 9, 0⟩ }).mfp .b).ctrl ≠ .delay q) ∧
    (let s := dueAt (withMfp fun m => { m with tc := ⟨1, 1, 0, 0⟩ }) .tc 1 0
     timerClass (timerGet s.mfp .c).ctrl = .delay 4 ∧ (s.slot (timerSlot .c)).due = some 1 ∧ s.sched.now < 1) :=
  ⟨(fun q h => by cases h), by decide⟩

theorem witness_DirectionPictureAndSoundCodes :
    State.reset.dma.mode.getLsbD 8 = false ∧ (bursting true 8).dma.mode.getLsbD 8 = true ∧
    State.reset.snd.en = false ∧ (sounding [] []).snd.en = true := by decide

theorem witness_StepKeepsWellFormed : Inv (blitting 3) ∧ Inv (bursting true 8) ∧
    (∃ t, step (blitting 3) = .next t) ∧ ∃ t, step (bursting true 8) = .next t :=
  ⟨by decide, by decide, ⟨_, rfl⟩, ⟨_, rfl⟩⟩

theorem witness_NothingStopsTheMachine : State.reset.cfg.wf = true := by decide

theorem witness_TimeOnlyMovesForward : (∃ t, exec (.run 1) State.reset = .next t) ∧
    Instr.run 1 ≠ .resetC ∧ ∀ d, Instr.run 1 ≠ .restore d :=
  ⟨⟨_, rfl⟩, by decide, fun d h => by cases h⟩

theorem witness_OnlyStoresChangeRam : (∃ t, exec .blitPhase (blitting 4) = .next t) ∧
    (∃ t, exec .dmaWord (bursting false 8) = .next t) ∧ (blitting 3).blit.phase ≠ phaseWriteDest ∧
    (∃ t, exec (.setGpioBit 0 true) withRam = .next t) :=
  ⟨⟨_, rfl⟩, ⟨_, rfl⟩, by decide, ⟨_, rfl⟩⟩

theorem witness_InterruptBitsStayConsistent :
    (∃ t, exec .fire (withMfp fun m => { m with ier := 0x2000, ipr := 0x2000, vr := 0x08, isr := 0x2000 }) = .next t) ∧
    PendingEnabled (withMfp fun m => { m with ier := 0x2000, ipr := 0x2000, vr := 0x08, isr := 0x2000 }).mfp ∧
    InServiceNeedsS (withMfp fun m => { m with ier := 0x2000, ipr := 0x2000, vr := 0x08, isr := 0x2000 }).mfp :=
  ⟨⟨_, rfl⟩, by decide, by decide⟩

theorem witness_DrivenLinesFollowTheirUnits :
    (∃ t, exec (.regBlitCtrlWrite 0x80) State.reset = .next t) ∧ State.reset.cfg.blitGpio ≠ State.reset.cfg.dmaGpio ∧
    State.reset.mfp.ext.getLsbD State.reset.cfg.blitGpio.toNat = State.reset.blit.busy ∧
    State.reset.mfp.ext.getLsbD State.reset.cfg.dmaGpio.toNat = (State.reset.dma.sectorCount != 0) :=
  ⟨⟨_, rfl⟩, by decide, by decide, by decide⟩

/-- An offset of a bank of each kind: a register byte, a hole, a hole before a register, a register before a hole,
two holes, HOP with OP, CTRL with SKEW, and a word register. -/
theorem witness_BankAccessesByOffset :
    let at' (a : Addr) := regionOf State.reset.cfg (remapAddr State.reset.cfg (onBus State.reset.cfg a))
    cpuEnabled State.reset = true ∧
    (at' 0xFFFA01 = .bank .mfp 1 ∧ registerByte .mfp 1 = true ∧ registerByte .mfp 0 = false) ∧
    (at' 0xFFFA00 = .bank .mfp 0 ∧ (0xFFFA00 : Addr).toNat % 2 = 0) ∧
    (at' 0xFF8260 = .bank .vid 0x60 ∧ registerByte .vid 0x60 = true ∧ registerByte .vid 0x61 = false) ∧
    (at' 0xFF827E = .bank .vid 0x7E ∧ registerByte .vid 0x7E = false ∧ registerByte .vid 0x7F = false) ∧
    at' 0xFF8A3A = .bank .blit 0x3A ∧ at' 0xFF8A3C = .bank .blit 0x3C ∧
    (at' 0xFF8A3E = .bank .blit 0x3E ∧ registerByte .blit 0x3E = false ∧ registerByte .blit 0x3F = false) ∧
    (at' 0xFF8A38 = .bank .blit 0x38 ∧ registerByte .blit 0x38 = true ∧ registerByte .blit 0x39 = true) := by decide

end Sys2Proof.Tests
end

section
/-! The registers of a bank (20_memory.md R86 to R89): what a byte and a word of it read and take, and the value that
a write of one lane of a longer register forms. -/

namespace Sys2Proof.Machine

/-! ### The bytes of a register in its bank -/

/-- The byte of a one-byte register is the whole of it. -/
theorem regReadByte_one {s t : State} {b : Bank} {o : Nat} {r : Reg} {x : Byte} (hr : regAt b o = some (r, 0))
    (h1 : regSize r = 1) (hx : regRead s r = (wideByte x, t)) : regReadByte s b o = (x, t) := by
  simp only [regReadByte, hr, hx, h1, regByte_one]

theorem regWriteByte_one {b : Bank} {o : Nat} {r : Reg} (s : State) (v : Byte) (hr : regAt b o = some (r, 0))
    (h1 : regSize r = 1) : regWriteByte s b o v = regWrite s r (wideByte v) := by
  simp only [regWriteByte, hr, h1, if_true]

/-! ### Words of a bank -/

/-- A word at an offset covers two bytes of one register. -/
def oneRegister (b : Bank) (o : Nat) : Bool :=
  match regAt b o, regAt b (o + 1) with
  | some (r, _), some (r', _) => r == r'
  | _, _ => false

/-- A word read over two registers, or over an offset with none, is that of its two bytes, the lower offset first
(20_memory.md R86). -/
theorem regReadWord_bytes (s : State) (b : Bank) (o : Nat) (h : oneRegister b o = false) :
    regReadWord s b o =
      (mkWord (regReadByte s b o).1 (regReadByte (regReadByte s b o).2 b (o + 1)).1,
        (regReadByte (regReadByte s b o).2 b (o + 1)).2) := by
  unfold regReadWord
  split
  · rename_i r k r' k' hr hr'
    exact if_neg (by simpa [oneRegister, hr, hr'] using h)
  · rfl

/-- A word write over two registers, or over an offset with none, is that of its two bytes, the lower offset first
(20_memory.md R89). -/
theorem regWriteWord_bytes (s : State) (b : Bank) (o : Nat) (v : Word) (h : oneRegister b o = false) :
    regWriteWord s b o v = regWriteByte (regWriteByte s b o (hiByte v)) b (o + 1) (loByte v) := by
  unfold regWriteWord
  split
  · rename_i r k r' k' hr hr'
    exact if_neg (by simpa [oneRegister, hr, hr'] using h)
  · rfl

theorem mkWord_ones : mkWord 0xFF 0xFF = 0xFFFF := by decide

/-- A word with a hole in its lower byte is the access of its upper byte. -/
theorem word_lowerHole (s : State) (b : Bank) (o : Nat) (v : Word) (hl : registerByte b o = false) :
    regReadWord s b o = (mkWord 0xFF (regReadByte s b (o + 1)).1, (regReadByte s b (o + 1)).2) ∧
      regWriteWord s b o v = regWriteByte s b (o + 1) (loByte v) := by
  have apart : oneRegister b o = false := by simp [oneRegister, regAt_eq_none b o hl]
  rw [regReadWord_bytes s b o apart, regWriteWord_bytes s b o v apart, (hole_byte s b o (hiByte v) hl).1,
    (hole_byte s b o (hiByte v) hl).2]
  exact ⟨rfl, rfl⟩

/-- A word with a hole in its upper byte is the access of its lower byte. -/
theorem word_upperHole (s : State) (b : Bank) (o : Nat) (v : Word) (hu : registerByte b (o + 1) = false) :
    regReadWord s b o = (mkWord (regReadByte s b o).1 0xFF, (regReadByte s b o).2) ∧
      regWriteWord s b o v = regWriteByte s b o (hiByte v) := by
  have apart : oneRegister b o = false := by simp [oneRegister, regAt_eq_none b (o + 1) hu]
  rw [regReadWord_bytes s b o apart, regWriteWord_bytes s b o v apart, (hole_byte _ b (o + 1) (loByte v) hu).1,
    (hole_byte _ b (o + 1) (loByte v) hu).2]
  exact ⟨rfl, rfl⟩

theorem hop_op_word (h : BitVec 2) (p : BitVec 4) :
    mkWord (h.setWidth 8) (p.setWidth 8) = 0#6 ++ h ++ 0#4 ++ p := by
  revert h p
  decide

theorem blitRegAt_bytes : regAt .blit 0x3A = some (.hop, 0) ∧ regAt .blit 0x3B = some (.op, 0) ∧
    regAt .blit 0x3C = some (.ctrl, 0) ∧ regAt .blit 0x3D = some (.skew, 0) := by decide

/-- HOP and OP, read and written as one word. -/
theorem word_hop_op (s : State) (v : Word) :
    regReadWord s .blit 0x3A = (0#6 ++ s.blit.hop ++ 0#4 ++ s.blit.op, s) ∧
      regWriteWord s .blit 0x3A v = { s with blit := { s.blit with
        hop := v.extractLsb' 8 2, op := v.extractLsb' 0 4 } } := by
  obtain ⟨hhop, hop, _, _⟩ := blitRegAt_bytes
  constructor
  · rw [← hop_op_word, regReadWord_bytes s .blit 0x3A (by decide), regReadByte_one (s := s) hhop rfl rfl,
      regReadByte_one (s := s) hop rfl rfl]
  · have low : (hiByte v).extractLsb' 0 2 = v.extractLsb' 8 2 := by
      ext i hi
      simp [hiByte, show i < 8 by omega]
    rw [regWriteWord_bytes s .blit 0x3A v (by decide), regWriteByte_one s _ hhop rfl, regWriteByte_one _ _ hop rfl]
    simp [regWrite, writeHop, writeOp, State.withBlit, low, loByte]

/-- CTRL and SKEW, read and written as one word. -/
theorem word_ctrl_skew (s : State) (v : Word) :
    regReadWord s .blit 0x3C = (blitCtrl s.blit ++ blitSkewReg s.blit, s) ∧
      regWriteWord s .blit 0x3C v = { writeBlitCtrl s (hiByte v) with blit := { (writeBlitCtrl s (hiByte v)).blit with
        fxsr := v.getLsbD 7, rsv6 := v.getLsbD 6, skew := v.extractLsb' 0 4 } } := by
  obtain ⟨_, _, hctrl, hskew⟩ := blitRegAt_bytes
  constructor
  · rw [regReadWord_bytes s .blit 0x3C (by decide), regReadByte_one (s := s) hctrl rfl rfl,
      regReadByte_one (s := s) hskew rfl rfl]
    rfl
  · rw [regWriteWord_bytes s .blit 0x3C v (by decide), regWriteByte_one s _ hctrl rfl,
      regWriteByte_one _ _ hskew rfl]
    simp [regWrite, writeSkew, State.withBlit, loByte]

/-! ### Lanes of a register of two or four bytes -/

/-- The full value formed by a write of a lane that starts at byte `k` of a register: the written bytes over those
of its read value `cur` (20_memory.md R89). -/
def putLane (cur : BitVec 32) (size k : Nat) : Wr16 → BitVec 32
  | .hi v => putRegByte cur size k v
  | .lo v => putRegByte cur size (k + 1) v
  | .both v => if size = 2 then wide v else putRegByte (putRegByte cur size k (hiByte v)) size (k + 1) (loByte v)

theorem putLane_two (old : Word) (w : Wr16) : (putLane (wide old) 2 0 w).setWidth 16 = merged old w := by
  cases w with
  | hi v => exact putRegByte_two_hi old v
  | lo v => exact putRegByte_two_lo old v
  | both v => exact wide_setWidth v

/-- A byte of the upper half of a four-byte register replaced. -/
theorem putRegByte_upper (a : Addr) (v : Byte) :
    putRegByte a 4 0 v = merged (a.extractLsb' 16 16) (.hi v) ++ a.extractLsb' 0 16 ∧
      putRegByte a 4 1 v = merged (a.extractLsb' 16 16) (.lo v) ++ a.extractLsb' 0 16 := by
  constructor
  all_goals
    apply BitVec.eq_of_getLsbD_eq
    intro i hi
    simp only [putRegByte, merged, mkWord, hiByte, loByte, BitVec.getLsbD_setWidth, BitVec.getLsbD_or,
      BitVec.getLsbD_and, BitVec.getLsbD_not, BitVec.getLsbD_shiftLeft, BitVec.getLsbD_append,
      BitVec.getLsbD_extractLsb']
    interval_cases i <;> simp

/-- A byte of the lower half of a four-byte register replaced. -/
theorem putRegByte_lower (a : Addr) (v : Byte) :
    putRegByte a 4 2 v = a.extractLsb' 16 16 ++ merged (a.extractLsb' 0 16) (.hi v) ∧
      putRegByte a 4 3 v = a.extractLsb' 16 16 ++ merged (a.extractLsb' 0 16) (.lo v) := by
  constructor
  all_goals
    apply BitVec.eq_of_getLsbD_eq
    intro i hi
    simp only [putRegByte, merged, mkWord, hiByte, loByte, BitVec.getLsbD_setWidth, BitVec.getLsbD_or,
      BitVec.getLsbD_and, BitVec.getLsbD_not, BitVec.getLsbD_shiftLeft, BitVec.getLsbD_append,
      BitVec.getLsbD_extractLsb']
    interval_cases i <;> simp

theorem halves_append (h l : Word) :
    (h ++ l : Addr).extractLsb' 16 16 = h ∧ (h ++ l : Addr).extractLsb' 0 16 = l := by
  constructor
  all_goals
    apply BitVec.eq_of_getLsbD_eq
    intro i hi
    simp only [BitVec.getLsbD_extractLsb', BitVec.getLsbD_append]
    interval_cases i <;> rfl

theorem putLane_four_upper (a : Addr) (w : Wr16) :
    putLane a 4 0 w = merged (a.extractLsb' 16 16) w ++ a.extractLsb' 0 16 := by
  cases w with
  | hi v => exact (putRegByte_upper a v).1
  | lo v => exact (putRegByte_upper a v).2
  | both v =>
    change putRegByte (putRegByte a 4 0 (hiByte v)) 4 1 (loByte v) = v ++ a.extractLsb' 0 16
    rw [(putRegByte_upper a _).1, (putRegByte_upper _ _).2, (halves_append _ _).1, (halves_append _ _).2]
    simp [merged]

theorem putLane_four_lower (a : Addr) (w : Wr16) :
    putLane a 4 2 w = a.extractLsb' 16 16 ++ merged (a.extractLsb' 0 16) w := by
  cases w with
  | hi v => exact (putRegByte_lower a v).1
  | lo v => exact (putRegByte_lower a v).2
  | both v =>
    change putRegByte (putRegByte a 4 2 (hiByte v)) 4 3 (loByte v) = a.extractLsb' 16 16 ++ v
    rw [(putRegByte_lower a _).1, (putRegByte_lower _ _).2, (halves_append _ _).1, (halves_append _ _).2]
    simp [merged]

/-- The bytes of an address register, two by two. -/
theorem address_words (a : Addr) :
    mkWord (regByte a 4 0) (regByte a 4 1) = a.extractLsb' 16 16 ∧
      mkWord (regByte a 4 2) (regByte a 4 3) = a.extractLsb' 0 16 := by
  simp only [regByte_addr_top, regByte_addr_hi, regByte_addr_mid, regByte_addr_lo]
  constructor
  all_goals
    apply BitVec.eq_of_getLsbD_eq
    intro i hi
    simp only [mkWord, addrTop, addrHi, addrMid, addrLo, BitVec.getLsbD_append, BitVec.getLsbD_extractLsb']
    interval_cases i <;> rfl

end Sys2Proof.Machine
end

section
/-! The commands RD.B, RD.W, WR.B and WR.W (41_bus_arbiter.md R172, R173) at an address of RAM, of a device outside the
block, and of a register bank. -/

namespace Sys2Proof.Machine

/-! ### Commands of the CPU where the step relation enables them -/

/-- An even address is one a word transaction can have (20_memory.md R85). -/
theorem isOdd_of_even {a : Addr} (h : a.toNat % 2 = 0) : isOdd a = false := by
  simp [isOdd, BitVec.getLsbD, Nat.testBit_zero, h]

theorem exec_rdB {s : State} (a : Addr) (he : cpuEnabled s = true) :
    exec (.rdB a) s = .next (reportRead .byte (busRead s .cpu a .byte)) :=
  congrArg Host.Outcome.next (whenCpu_enabled he)

theorem exec_rdW {s : State} {a : Addr} (he : cpuEnabled s = true) (ha : a.toNat % 2 = 0) :
    exec (.rdW a) s = .next (reportRead .word (busRead s .cpu a .word)) := by
  refine congrArg Host.Outcome.next ((whenCpu_enabled he).trans ?_)
  simp [isOdd_of_even ha]

theorem exec_wrB {s : State} (a : Addr) (v : Byte) (he : cpuEnabled s = true) :
    exec (.wrB a v) s = .next (busWrite s .cpu a .byte (byteToWord v)) :=
  congrArg Host.Outcome.next (whenCpu_enabled he)

theorem exec_wrW {s : State} {a : Addr} (v : Word) (he : cpuEnabled s = true) (ha : a.toNat % 2 = 0) :
    exec (.wrW a v) s = .next (busWrite s .cpu a .word v) := by
  refine congrArg Host.Outcome.next ((whenCpu_enabled he).trans ?_)
  simp [isOdd_of_even ha]

/-! ### A transaction in the region its address decodes to -/

theorem busRead_region {s : State} {u : Master} {a : Addr} {r : Region} (w : Width)
    (hr : regionOf s.cfg (remapAddr s.cfg (onBus s.cfg a)) = r) :
    busRead s u a w = txRead s u (onBus s.cfg a) (remapAddr s.cfg (onBus s.cfg a)) r w := by
  rw [← hr]
  rfl

theorem busWrite_region {s : State} {u : Master} {a : Addr} {r : Region} (w : Width) (v : Word)
    (hr : regionOf s.cfg (remapAddr s.cfg (onBus s.cfg a)) = r) :
    busWrite s u a w v = txWrite s u (onBus s.cfg a) (remapAddr s.cfg (onBus s.cfg a)) r w v := by
  rw [← hr]
  rfl

theorem reportRead_some (w : Width) (v : Word) (t : State) :
    reportRead w (some v, t) = reporting t (.data w v) := rfl

/-! ### RAM -/

/-- Settles O12: a RAM transaction of the CPU, then its report. -/
theorem readOfRam : Obligations.ReadOfRam := by
  intro s a he hr
  refine ⟨?_, fun ha => ?_⟩
  · rw [exec_rdB a he, busRead_region _ hr, (txRead_ram s .cpu _ _).1, reportRead_some]
  · rw [exec_rdW he ha, busRead_region _ hr, (txRead_ram s .cpu _ _).2, reportRead_some]
    rfl

/-- The ticks, the latches and the record of a transaction are no part of RAM. -/
theorem ramByte_transacted (t : State) (u : Master) (a : Addr) (v : Word) (w : Width) (d : Dir) (ticks x : Nat) :
    ramByte (transacted t u a v w d ticks) x = ramByte t x := rfl

theorem busWrite_ram_byte {s : State} {u : Master} {a : Addr} (v : Byte)
    (hr : regionOf s.cfg (remapAddr s.cfg (onBus s.cfg a)) = .ram) :
    busWrite s u a .byte (byteToWord v) =
      transacted (ramPut s (remapAddr s.cfg (onBus s.cfg a)).toNat v) u (onBus s.cfg a)
        (onLatch s.cfg (byteToWord v)) .byte .write s.cfg.tBus := by
  rw [busWrite_region _ _ hr, (txWrite_ram s u _ _ _).1, loByte_byteToWord]
  rfl

theorem busWrite_ram_word {s : State} {u : Master} {a : Addr} (v : Word)
    (hr : regionOf s.cfg (remapAddr s.cfg (onBus s.cfg a)) = .ram) :
    busWrite s u a .word v =
      transacted (ramPutWord s (remapAddr s.cfg (onBus s.cfg a)).toNat v) u (onBus s.cfg a)
        (onLatch s.cfg v) .word .write s.cfg.tBus := by
  rw [busWrite_region _ _ hr, (txWrite_ram s u _ _ _).2]
  rfl

/-- Settles O13: the transaction's RAM is that of `ramPut` or `ramPutWord`, whose laws say what each byte reads. -/
theorem writeOfRam : Obligations.WriteOfRam := by
  intro s a he hr p wrote
  refine ⟨fun v => ⟨_, exec_wrB a v he, ?_⟩, fun v ha => ⟨_, exec_wrW v he ha, ?_⟩⟩
  · rw [busWrite_ram_byte v hr]
    refine ⟨ramByte_ramPut_same _ _ _, fun x hx => ?_, rfl⟩
    exact (ramByte_transacted _ _ _ _ _ _ _ _).trans (ramByte_ramPut_other _ _ _ _ (by omega))
  · rw [busWrite_ram_word v hr]
    have byte (x : Nat) := ramByte_ramPutWord s p x v
    refine ⟨?_, ?_, fun x hx => ?_, rfl⟩ <;> rw [ramByte_transacted, byte]
    · rw [if_pos rfl]
    · rw [if_neg (by omega), if_pos rfl]
    · rw [if_neg (by omega), if_neg (by omega)]

/-! ### Devices outside the block -/

/-- A byte read transaction of a device: the low byte of its answer. -/
theorem txRead_ext_byte (s : State) (u : Master) (a p : Addr) :
    txRead s u a p .ext .byte =
      (some (byteToWord (loByte (s.env.ext.headD (Config.extValue s.env.draws)))),
        transacted (handed (tookExt s) (.extRead p .byte)) u a
          (onLatch s.cfg (byteToWord (loByte (s.env.ext.headD (Config.extValue s.env.draws))))) .byte .read
          s.cfg.tBus) := by
  rcases s with ⟨_, _, _, _, _, _, _, _, _, _, ⟨_, _, ext, _, _⟩, _, _⟩
  cases ext <;> cases u <;> rfl

/-- Settles O15: the answer is the head of the queue of fixed answers, or the free value where the queue is empty. -/
theorem deviceAccesses : Obligations.DeviceAccesses := by
  intro s a he hr bus p wrote
  refine ⟨⟨s.env.ext.headD (Config.extValue s.env.draws), fun x hx => ?_, ?_, fun ha => ?_⟩, fun v => ?_,
    fun v ha => ?_⟩
  · rw [List.headD_eq_head?_getD, hx, Option.getD_some]
  · rw [exec_rdB a he, busRead_region _ hr, txRead_ext_byte, reportRead_some]
  · rw [exec_rdW he ha, busRead_region _ hr, txRead_ext, reportRead_some]
  · rw [exec_wrB a v he, busWrite_region _ _ hr, txWrite_ext]
  · rw [exec_wrW v he ha, busWrite_region _ _ hr, txWrite_ext]

/-! ### Register banks -/

/-- Settles O60: every access is one transaction with the bank; a hole of a word leaves its other byte. -/
theorem bankAccessesByOffset : Obligations.BankAccessesByOffset := by
  intro s a b o he hr ticks read wrote lower upper
  have rdB : exec (.rdB a) s = read (regReadByte s b o).2 .byte (byteToWord (regReadByte s b o).1) := by
    rw [exec_rdB a he, busRead_region _ hr, (txRead_bank s .cpu _ _ b o).1]
    rfl
  have wrB (v : Byte) : exec (.wrB a v) s = wrote (regWriteByte s b o v) .byte (byteToWord v) := by
    rw [exec_wrB a v he, busWrite_region _ _ hr, (txWrite_bank s .cpu _ _ b o _).1, loByte_byteToWord]
    rfl
  refine ⟨fun _ => rdB, fun hl => ?_, fun v => ⟨fun _ => wrB v, fun hl => ?_⟩, fun ha v => ?_⟩
  · rw [rdB, (hole_byte s b o 0 hl).1]
    rfl
  · rw [wrB, (hole_byte s b o v hl).2]
  have rdW : exec (.rdW a) s = read (regReadWord s b o).2 .word (regReadWord s b o).1 := by
    rw [exec_rdW he ha, busRead_region _ hr, (txRead_bank s .cpu _ _ b o).2]
    rfl
  have wrW : exec (.wrW a v) s = wrote (regWriteWord s b o v) .word v := by
    rw [exec_wrW v he ha, busWrite_region _ _ hr, (txWrite_bank s .cpu _ _ b o _).2]
    rfl
  rw [rdW, wrW]
  refine ⟨fun hl hu => ?_, fun hl _ => ?_, fun _ hu => ?_, ?_, ?_, fun _ _ _ => ⟨rfl, rfl⟩⟩
  · obtain ⟨hrd, hwr⟩ := word_lowerHole s b o v hl
    obtain ⟨hread, hwrite⟩ := hole_byte s b (o + 1) (loByte v) hu
    rw [hrd, hwr, hread, hwrite, mkWord_ones]
    exact ⟨rfl, rfl⟩
  · obtain ⟨hrd, hwr⟩ := word_lowerHole s b o v hl
    rw [hrd, hwr]
    exact ⟨rfl, rfl⟩
  · obtain ⟨hrd, hwr⟩ := word_upperHole s b o v hu
    rw [hrd, hwr]
    exact ⟨rfl, rfl⟩
  · rintro rfl rfl
    obtain ⟨hrd, hwr⟩ := word_hop_op s v
    rw [hrd, hwr]
    exact ⟨rfl, rfl⟩
  · rintro rfl rfl
    obtain ⟨hrd, hwr⟩ := word_ctrl_skew s v
    rw [hrd, hwr]
    exact ⟨rfl, rfl⟩

end Sys2Proof.Machine
end

section
/-! The register rows of the blitter and of the interrupt controller: whole transactions of the CPU on one register
(30_encoding.md R113, R114). -/

namespace Sys2Proof.Machine

/-! ### Register rows: whole transactions of the CPU -/

/-- A byte read of a bank by the CPU that leaves the units as they are. -/
theorem bankRead_byte {s : State} {b : Bank} {o : Nat} {x : Byte} (he : cpuEnabled s = true)
    (hx : regReadByte s b o = (x, s)) : bankRead s b o .byte = read8 s b o x := by
  unfold bankRead
  rw [whenCpu_enabled he]
  simp only [(txRead_bank s .cpu _ _ b o).1, hx]
  rfl

theorem bankRead_word {s : State} {b : Bank} {o : Nat} {x : Word} (he : cpuEnabled s = true)
    (hx : regReadWord s b o = (x, s)) : bankRead s b o .word = cpuRead s b o .word x := by
  unfold bankRead
  rw [whenCpu_enabled he]
  simp only [(txRead_bank s .cpu _ _ b o).2, hx]
  rfl

theorem bankWrite_byte {s t : State} {b : Bank} {o : Nat} {v : Byte} (he : cpuEnabled s = true)
    (ht : regWriteByte s b o v = t) : bankWrite s b o .byte (byteToWord v) = cpuWrote t b o .byte (byteToWord v) := by
  have hc : t.cfg = s.cfg := ht ▸ regWriteByte_cfg s b o v
  unfold bankWrite cpuWrote
  rw [whenCpu_enabled he]
  simp only [(txWrite_bank s .cpu _ _ b o _).1, loByte_byteToWord, ht, hc]
  rfl

theorem bankWrite_word {s t : State} {b : Bank} {o : Nat} {v : Word} (he : cpuEnabled s = true)
    (ht : regWriteWord s b o v = t) : bankWrite s b o .word v = cpuWrote t b o .word v := by
  have hc : t.cfg = s.cfg := ht ▸ regWriteWord_cfg s b o v
  unfold bankWrite cpuWrote
  rw [whenCpu_enabled he]
  simp only [(txWrite_bank s .cpu _ _ b o _).2, ht, hc]
  rfl

/-- A read of the one-byte register `r` at offset `o`. -/
theorem access8At_rd {s : State} {b : Bank} {o : Nat} (r : Reg) {x : Byte} (he : cpuEnabled s = true)
    (hr : regAt b o = some (r, 0)) (h1 : regSize r = 1) (hx : regRead s r = (wideByte x, s)) :
    access8At s b o .rd = read8 s b o x :=
  bankRead_byte he (regReadByte_one hr h1 hx)

/-- A write of the one-byte register `r` at offset `o`. -/
theorem access8At_wr {s : State} {b : Bank} {o : Nat} (r : Reg) (v : Byte) (he : cpuEnabled s = true)
    (hr : regAt b o = some (r, 0)) (h1 : regSize r = 1) :
    access8At s b o (.wr v) = wrote8 (regWrite s r (wideByte v)) b o v :=
  bankWrite_byte he (regWriteByte_one s v hr h1)

/-- A read of a lane of two bytes of the register `r`, of which offset `o` holds byte `k`. -/
theorem access16At_rd {s : State} {b : Bank} {o k : Nat} (r : Reg) {x : BitVec 32} {v : Word}
    (he : cpuEnabled s = true) (hr : regAt b o = some (r, k)) (hr' : regAt b (o + 1) = some (r, k + 1))
    (hx : regRead s r = (x, s)) (hv : mkWord (regByte x (regSize r) k) (regByte x (regSize r) (k + 1)) = v)
    (l : Lane) : access16At s b o (.rd l) = read16 s b o v l := by
  subst hv
  cases l with
  | hi =>
    refine (bankRead_byte he (x := regByte x (regSize r) k) ?_).trans (by rw [read16, hiByte_mkWord]; rfl)
    simp only [laneAccess, regReadByte, hr, hx]
  | lo =>
    refine (bankRead_byte he (x := regByte x (regSize r) (k + 1)) ?_).trans (by rw [read16, loByte_mkWord]; rfl)
    simp only [laneAccess, regReadByte, hr', hx]
  | both =>
    refine bankRead_word he ?_
    simp only [laneAccess, regReadWord, hr, hr', hx, if_true]

/-- A write of a lane of two bytes of the register `r`, of which offset `o` holds byte `k`. -/
theorem access16At_wr {s : State} {b : Bank} {o k : Nat} (r : Reg) {x : BitVec 32} (he : cpuEnabled s = true)
    (hr : regAt b o = some (r, k)) (hr' : regAt b (o + 1) = some (r, k + 1)) (h1 : regSize r ≠ 1)
    (hx : regRead s r = (x, s)) (w : Wr16) :
    access16At s b o (.wr w) = wrote16 (regWrite s r (putLane x (regSize r) k w)) b o w := by
  cases w with
  | hi v =>
    refine bankWrite_byte he ?_
    simp only [regWriteByte, hr, h1, hx, if_false, putLane]
  | lo v =>
    refine bankWrite_byte he ?_
    simp only [regWriteByte, hr', h1, hx, if_false, putLane]
  | both v =>
    refine bankWrite_word he ?_
    simp only [regWriteWord, hr, hr', hx, if_true, putLane]
    split <;> rfl

/-- A read of a two-byte register. -/
theorem wordRegister_rd {s : State} {b : Bank} {o : Nat} (r : Reg) {v : Word} (l : Lane) (he : cpuEnabled s = true)
    (hr : regAt b o = some (r, 0)) (hr' : regAt b (o + 1) = some (r, 1)) (h2 : regSize r = 2)
    (hx : regRead s r = (wide v, s)) : access16At s b o (.rd l) = read16 s b o v l :=
  access16At_rd r he hr hr' hx (by rw [h2, regByte_two_hi, regByte_two_lo, mkWord_bytes]) l

/-- A write of a two-byte register whose write rule is `f`. -/
theorem wordRegister_wr {s : State} {b : Bank} {o : Nat} (r : Reg) (f : Word → State) {old : Word} (w : Wr16)
    (he : cpuEnabled s = true) (hr : regAt b o = some (r, 0)) (hr' : regAt b (o + 1) = some (r, 1))
    (h2 : regSize r = 2) (hx : regRead s r = (wide old, s)) (hf : ∀ x, regWrite s r x = f (x.setWidth 16)) :
    access16At s b o (.wr w) = wrote16 (f (merged old w)) b o w := by
  rw [access16At_wr r he hr hr' (by omega) hx, hf, h2, putLane_two]

/-- A write of a one-byte register whose write rule is `f`. -/
theorem byteRegister_wr {s : State} {b : Bank} {o : Nat} (r : Reg) (f : Byte → State) (v : Byte)
    (he : cpuEnabled s = true) (hr : regAt b o = some (r, 0)) (h1 : regSize r = 1)
    (hf : ∀ x, regWrite s r x = f (x.setWidth 8)) : access8At s b o (.wr v) = wrote8 (f v) b o v := by
  rw [access8At_wr r v he hr h1, hf, wideByte_setWidth]

/-- A write of a half of an address register, whose full value the write forms is `a1`. -/
theorem addressRegister_wr {s : State} {b : Bank} {o k : Nat} (r : Reg) {a a1 : Addr} (w : Wr16)
    (he : cpuEnabled s = true) (hr : regAt b o = some (r, k)) (hr' : regAt b (o + 1) = some (r, k + 1))
    (h4 : regSize r = 4) (hx : regRead s r = (a, s)) (hp : putLane a 4 k w = a1) :
    access16At s b o (.wr w) = wrote16 (regWrite s r a1) b o w := by
  rw [access16At_wr r he hr hr' (by omega) hx, h4, hp]

/-! ### The registers of the blitter and of the interrupt controller -/

/-- A row gives the next state its access leaves. -/
theorem next_congr {x y : State} (h : x = y) : (.next x : Host.Outcome State Fault Refusal) = .next y := congrArg _ h

/-- The offsets of HALFTONE[n] (30_encoding.md R114). -/
theorem regAt_halftone (n : BitVec 4) : regAt .blit (2 * n.toNat) = some (.halftone n, 0) ∧
    regAt .blit (2 * n.toNat + 1) = some (.halftone n, 1) := by
  revert n
  decide

/-- Settles O40: each row is the read of its register in the bank. -/
theorem readsOfBlitterRegisters : Obligations.ReadsOfBlitterRegisters := by
  intro s l he b src dst
  exact ⟨fun n => next_congr (wordRegister_rd (.halftone n) l he (regAt_halftone n).1 (regAt_halftone n).2 rfl rfl),
    next_congr (wordRegister_rd .srcXinc l he rfl rfl rfl rfl),
    next_congr (wordRegister_rd .srcYinc l he rfl rfl rfl rfl),
    next_congr (access16At_rd .srcAddr he rfl rfl rfl (address_words src).1 l),
    next_congr (access16At_rd .srcAddr he rfl rfl rfl (address_words src).2 l),
    next_congr (wordRegister_rd .endmask1 l he rfl rfl rfl rfl),
    next_congr (wordRegister_rd .endmask2 l he rfl rfl rfl rfl),
    next_congr (wordRegister_rd .endmask3 l he rfl rfl rfl rfl),
    next_congr (wordRegister_rd .dstXinc l he rfl rfl rfl rfl),
    next_congr (wordRegister_rd .dstYinc l he rfl rfl rfl rfl),
    next_congr (access16At_rd .dstAddr he rfl rfl rfl (address_words dst).1 l),
    next_congr (access16At_rd .dstAddr he rfl rfl rfl (address_words dst).2 l),
    next_congr (wordRegister_rd .xCount l he rfl rfl rfl rfl),
    next_congr (wordRegister_rd .yCount l he rfl rfl rfl rfl),
    next_congr (access8At_rd .hop he rfl rfl rfl), next_congr (access8At_rd .op he rfl rfl rfl),
    next_congr (access8At_rd .ctrl he rfl rfl rfl), next_congr (access8At_rd .skew he rfl rfl rfl)⟩

/-- Settles O41: each row applies its register's write rule to the full value the write forms. -/
theorem writesOfBlitterRegisters : Obligations.WritesOfBlitterRegisters := by
  intro s w v he b src dst set setSrc setDst
  exact ⟨fun n => next_congr (wordRegister_wr (.halftone n) (writeHalftone s n) w he (regAt_halftone n).1
      (regAt_halftone n).2 rfl rfl fun _ => rfl),
    next_congr (wordRegister_wr .srcXinc (writeSrcXinc s) w he rfl rfl rfl rfl fun _ => rfl),
    next_congr (wordRegister_wr .srcYinc (writeSrcYinc s) w he rfl rfl rfl rfl fun _ => rfl),
    next_congr (wordRegister_wr .dstXinc (writeDstXinc s) w he rfl rfl rfl rfl fun _ => rfl),
    next_congr (wordRegister_wr .dstYinc (writeDstYinc s) w he rfl rfl rfl rfl fun _ => rfl),
    next_congr (addressRegister_wr .srcAddr w he rfl rfl rfl rfl (putLane_four_upper src w)),
    next_congr (addressRegister_wr .srcAddr w he rfl rfl rfl rfl (putLane_four_lower src w)),
    next_congr (addressRegister_wr .dstAddr w he rfl rfl rfl rfl (putLane_four_upper dst w)),
    next_congr (addressRegister_wr .dstAddr w he rfl rfl rfl rfl (putLane_four_lower dst w)),
    next_congr (wordRegister_wr .endmask1 (writeEndmask1 s) w he rfl rfl rfl rfl fun _ => rfl),
    next_congr (wordRegister_wr .endmask2 (writeEndmask2 s) w he rfl rfl rfl rfl fun _ => rfl),
    next_congr (wordRegister_wr .endmask3 (writeEndmask3 s) w he rfl rfl rfl rfl fun _ => rfl),
    next_congr (wordRegister_wr .xCount (writeXCount s) w he rfl rfl rfl rfl fun _ => rfl),
    next_congr (wordRegister_wr .yCount (writeYCount s) w he rfl rfl rfl rfl fun _ => rfl),
    next_congr (byteRegister_wr .hop (writeHop s) v he rfl rfl fun _ => rfl),
    next_congr (byteRegister_wr .op (writeOp s) v he rfl rfl fun _ => rfl),
    next_congr (byteRegister_wr .skew (writeSkew s) v he rfl rfl fun _ => rfl)⟩

/-- GPIP bit by bit (43_mfp.md R280). -/
theorem getLsbD_gpipValue (m : Mfp) (i : Nat) :
    (gpipValue m).getLsbD i = if m.ddr.getLsbD i then m.gpipOut.getLsbD i else m.ext.getLsbD i := by
  by_cases hi : i < 8
  · simp only [gpipValue, BitVec.getLsbD_or, BitVec.getLsbD_and, BitVec.getLsbD_not, hi, decide_true, Bool.true_and]
    cases m.ddr.getLsbD i <;> simp
  · simp [BitVec.getLsbD_of_ge _ i (Nat.le_of_not_lt hi)]

/-- Settles O43: each row is the read of its one-byte register in the bank. -/
theorem readsOfMfpRegisters : Obligations.ReadsOfMfpRegisters := by
  intro s he m
  exact ⟨⟨gpipValue m, next_congr (access8At_rd .gpip he rfl rfl rfl), getLsbD_gpipValue m⟩,
    next_congr (access8At_rd .aer he rfl rfl rfl), next_congr (access8At_rd .ddr he rfl rfl rfl),
    next_congr (access8At_rd .iera he rfl rfl rfl), next_congr (access8At_rd .ierb he rfl rfl rfl),
    next_congr (access8At_rd .ipra he rfl rfl rfl), next_congr (access8At_rd .iprb he rfl rfl rfl),
    next_congr (access8At_rd .isra he rfl rfl rfl), next_congr (access8At_rd .isrb he rfl rfl rfl),
    next_congr (access8At_rd .imra he rfl rfl rfl), next_congr (access8At_rd .imrb he rfl rfl rfl),
    next_congr (access8At_rd .vr he rfl rfl rfl), next_congr (access8At_rd .tacr he rfl rfl rfl),
    next_congr (access8At_rd .tbcr he rfl rfl rfl), next_congr (access8At_rd .tcdcr he rfl rfl rfl)⟩

end Sys2Proof.Machine
end

section
/-! BLIT_PHASE (42_blitter.md R222 to R233) and DMA_WORD (44_dma.md R404, R405): what a step leaves, given what its
one transaction leaves. -/

namespace Sys2Proof.Machine

/-! ### A transaction of the blitter or the DMA engine leaves its own unit alone -/

/-- A word read outside the master's own bank keeps the configuration, the burst and the master's registers. -/
theorem Fetched.keeps {s t : State} {u : Master} {a : Addr} {w : Word} (h : Fetched s u a w t) :
    t.cfg = s.cfg ∧ t.bus.burstLeft = s.bus.burstLeft ∧ (u = .blit → t.blit = s.blit) ∧
      (u = .dma → t.dma = s.dma) := by
  rcases h with ⟨_, _, ht⟩ | ⟨b, o, _, _, _, ht⟩ | ⟨_, _, ht⟩ | ⟨_, _, ht⟩ <;> subst ht
  case inr.inl =>
    obtain ⟨hblit, hdma, _⟩ := regReadWord_units s b o
    have hleft := congrArg Bus.burstLeft (regReadWord_bus s b o)
    exact ⟨regReadWord_cfg s b o, hleft, fun _ => hblit, fun _ => hdma⟩
  all_goals exact ⟨rfl, rfl, fun _ => rfl, fun _ => rfl⟩

/-- A word write outside the master's own bank keeps the configuration, the burst and the master's registers. -/
theorem Stored.keeps {s t : State} {u : Master} {a : Addr} {v : Word} (h : Stored s u a v t) :
    t.cfg = s.cfg ∧ t.bus.burstLeft = s.bus.burstLeft ∧ (u = .blit → t.blit = s.blit) ∧
      (u = .dma → t.dma = s.dma) := by
  rcases h with ⟨_, ht⟩ | ⟨b, o, _, hown, ht⟩ | ⟨_, ht⟩ | ⟨_, ht⟩ <;> subst ht
  case inr.inl =>
    obtain ⟨hblit, hdma, _⟩ := regWriteWord_units s b o v
    have hleft := congrArg Bus.burstLeft (regWriteWord_bus s b o v)
    refine ⟨regWriteWord_cfg s b o v, hleft, fun hu => hblit ?_, fun hu => hdma ?_⟩
    all_goals
      rintro rfl
      exact hown (by rw [hu]; rfl)
  all_goals exact ⟨rfl, rfl, fun _ => rfl, fun _ => rfl⟩

/-! ### The phases of the blitter -/

theorem exec_blitPhase {s : State} (hp : pendingStep s = some .blitPhase) :
    exec .blitPhase s = .next (blitPhaseStep s) :=
  congrArg Host.Outcome.next (whenStep_enabled hp)

theorem blitRead_of_fetched {s t : State} {a : Addr} {w : Word} (h : Fetched s .blit a w t) :
    blitRead s a = (w, countTransaction t) := by
  obtain ⟨hw, ht⟩ := busRead_of_fetched s t .blit a w (by decide) h
  exact Prod.ext hw (congrArg countTransaction ht)

/-- A change of phase after a change of the blitter's registers. -/
theorem toPhase_withBlit (t : State) (b : Blit) (p : BitVec 3) :
    toPhase (t.withBlit b) p = tracing { t with blit := { b with phase := p } } (.blitPhase b.phase p) := rfl

theorem blitPrime_of_fetched {s t : State} {w : Word} (h : Fetched s .blit s.blit.srcAddr w t) :
    blitPrime s = tracing { t with blit := { s.blit with
      srcbuf := (shiftIn s.blit w).srcbuf
      srcAddr := stepAddr s.cfg s.blit.srcAddr (sextAddr s.blit.srcXinc)
      phase := phaseReadSource, timeout := s.blit.timeout - 1 } } (.blitPhase s.blit.phase phaseReadSource) := by
  obtain ⟨_, _, hb, _⟩ := h.keeps
  simp only [blitPrime, blitRead_of_fetched h, toPhase_withBlit]
  rw [← hb rfl]
  rfl

theorem blitReadSource_of_fetched {s t : State} {w : Word} (h : Fetched s .blit s.blit.srcAddr w t) :
    blitReadSource s = tracing { t with blit := { s.blit with
      srcbuf := (shiftIn s.blit w).srcbuf
      srcAddr := stepAddr s.cfg s.blit.srcAddr
        (sextAddr (if blitLast s.blit then s.blit.srcYinc else s.blit.srcXinc))
      phase := if doRdest s.blit then phaseReadDest else phaseWriteDest, timeout := s.blit.timeout - 1 } }
      (.blitPhase s.blit.phase (if doRdest s.blit then phaseReadDest else phaseWriteDest)) := by
  obtain ⟨_, _, hb, _⟩ := h.keeps
  simp only [blitReadSource, blitRead_of_fetched h, toPhase_withBlit]
  rw [← hb rfl]
  rfl

theorem blitReadDest_of_fetched {s t : State} {w : Word} (h : Fetched s .blit s.blit.dstAddr w t) :
    blitReadDest s = tracing { t with blit := { s.blit with
      dlatch := w, phase := phaseWriteDest, timeout := s.blit.timeout - 1 } }
      (.blitPhase s.blit.phase phaseWriteDest) := by
  obtain ⟨_, _, hb, _⟩ := h.keeps
  simp only [blitReadDest, blitRead_of_fetched h, toPhase_withBlit]
  rw [← hb rfl]
  rfl

theorem blitLast_iff (b : Blit) : blitLast b = true ↔ b.xCount = 1 := by
  simp [blitLast]

theorem blitMask_eq (b : Blit) : blitMask b =
    if b.xCount = b.xReload then b.endmask1 else if b.xCount = 1 then b.endmask3 else b.endmask2 := by
  simp [blitMask, blitFirst, blitLast]

theorem doRdest_iff (b : Blit) : doRdest b = true ↔
    blitMask b ≠ 0xFFFF ∨ ¬ (b.op = 0 ∨ b.op = 3 ∨ b.op = 12 ∨ b.op = 15) := by
  simp [doRdest, usesDest, and_assoc]

/-- Settles O34: the phase decides which read of R223, R224, R227 is taken. -/
theorem blitReadingPhases : Obligations.BlitReadingPhases := by
  intro s t w hp b shifted mask next
  rw [exec_blitPhase hp]
  have hnext : (if doRdest b then phaseReadDest else phaseWriteDest) = next := by
    simp only [doRdest_iff, blitMask_eq]
    rfl
  refine ⟨fun hphase h => ?_, fun hphase h => ?_, fun hphase h => ?_⟩
  · have hstep : blitPhaseStep s = blitPrime s := if_pos hphase
    rw [hstep, blitPrime_of_fetched h, hphase]
    rfl
  · have hstep : blitPhaseStep s = blitReadSource s := by
      simp [blitPhaseStep, show s.blit.phase = 2 from hphase, phasePrime, phaseReadSource]
    rw [hstep, blitReadSource_of_fetched h, hphase, hnext]
    simp only [blitLast_iff]
    rfl
  · have hstep : blitPhaseStep s = blitReadDest s := by
      simp [blitPhaseStep, show s.blit.phase = 3 from hphase, phasePrime, phaseReadSource, phaseReadDest]
    rw [hstep, blitReadDest_of_fetched h, hphase]
    rfl

/-- The state WRITE_DEST leaves before what follows the word: the destination address and X_COUNT have moved, the
phase is idle and the bus released (42_blitter.md R229). -/
def wordWritten (s u : State) : State :=
  tracing { u with owner := .cpu, blit := { s.blit with
    dstAddr := stepAddr s.cfg s.blit.dstAddr (sextAddr (if blitLast s.blit then s.blit.dstYinc else s.blit.dstXinc))
    xCount := s.blit.xCount - 1, phase := phaseIdle, timeout := s.blit.timeout - 1 } }
    (.blitPhase s.blit.phase phaseIdle)

theorem exec_writeDest {s u : State} (hp : pendingStep s = some .blitPhase) (hphase : s.blit.phase = phaseWriteDest)
    (h : Stored s .blit s.blit.dstAddr (blitOut s.blit) u) :
    exec .blitPhase s =
      .next (if blitLast s.blit then lineEnd (wordWritten s u) else nextWindow (wordWritten s u)) := by
  obtain ⟨_, _, hb, _⟩ := h.keeps
  have hstep : blitPhaseStep s = blitWriteDest s := by
    simp [blitPhaseStep, hphase, phasePrime, phaseReadSource, phaseReadDest, phaseWriteDest]
  rw [exec_blitPhase hp, hstep, blitWriteDest, busWrite_of_stored s u .blit _ _ (by decide) h, wordWritten, ← hb rfl]
  rfl

/-- With HOG, or with slice left, the blitter asks for the next window (R232). -/
theorem nextWindow_asks {s : State} (h : s.blit.hog = true ∨ 0 < s.blit.timeout) :
    nextWindow s = { s with blit := { s.blit with request := true } } := if_pos h

/-- Without, it yields for the CPU slice (R232, R233). -/
theorem nextWindow_yields {s : State} (h : ¬ (s.blit.hog = true ∨ 0 < s.blit.timeout)) :
    nextWindow s = scheduled { s with blit := { s.blit with request := false } } .blitResume
      (some (s.sched.now + s.cfg.cpuSlice)) := if_neg h

/-- The end of a line that is not the last (R230). -/
theorem lineEnd_goesOn {s : State} (h : s.blit.yCount ≠ 1) :
    lineEnd s = nextWindow { s with blit := { s.blit with
      xCount := s.blit.xReload, line := s.blit.line + 1, yCount := s.blit.yCount - 1 } } :=
  if_neg fun e : s.blit.yCount - 1 = 0 => h (sub_eq_zero.mp e)

/-- The end of the last line (R230, R231). -/
theorem lineEnd_terminates {s : State} (h : s.blit.yCount = 1) :
    lineEnd s = lineMoved { s with
      owner := .cpu
      blit := { s.blit with
        xCount := s.blit.xReload, line := s.blit.line + 1, yCount := 0
        busy := false, done := true, request := false, phase := phaseIdle } } s.cfg.blitGpio false := by
  have hy : s.blit.yCount - 1 = 0 := by rw [h]; rfl
  rw [← setGpioBit_eq, ← hy]
  exact if_pos hy

/-- Settles O35: the blit goes on by `nextWindow`, inside a line at once and at the end of one after it. -/
theorem blitWriteGoesOn : Obligations.BlitWriteGoesOn := by
  intro s u hp hphase h b moved inside atEnd b1 hy
  obtain ⟨hcfg, _, _, _⟩ := h.keeps
  have hstep : exec .blitPhase s = .next (nextWindow (moved b1)) := by
    rw [exec_writeDest hp hphase h]
    by_cases hx : b.xCount = 1
    · have hl : blitLast s.blit = true := (blitLast_iff _).mpr hx
      rw [if_pos hl, lineEnd_goesOn (s := wordWritten s u) (hy hx)]
      simp only [b1, if_pos hx, wordWritten, hl, hphase]
      rfl
    · have hl : ¬ blitLast s.blit = true := fun hl => hx ((blitLast_iff _).mp hl)
      rw [if_neg hl]
      simp only [b1, if_neg hx, wordWritten, hl, hphase]
      rfl
  have hhog : (moved b1).blit.hog = b.hog := by
    simp only [b1]
    split <;> rfl
  rw [hstep]
  refine ⟨fun hgo => ?_, fun hhog0 ht => ?_⟩
  · rw [nextWindow_asks (hhog ▸ hgo.imp_right fun ht => Nat.sub_pos_of_lt ht)]
    rfl
  · have hstop : ¬ ((moved b1).blit.hog = true ∨ 0 < (moved b1).blit.timeout) := by
      rw [hhog, hhog0]
      rintro (hc | hc)
      · cases hc
      · exact absurd (show 0 < b.timeout - 1 from hc) (by omega)
    rw [nextWindow_yields hstop, ← hcfg]
    rfl

/-- Settles O36: the last word ends its line, and the line ends the blit. -/
theorem blitEndsAtItsLastWord : Obligations.BlitEndsAtItsLastWord := by
  intro s u hp hphase hx hy h
  obtain ⟨hcfg, _, _, _⟩ := h.keeps
  have hl : blitLast s.blit = true := (blitLast_iff _).mpr hx
  rw [exec_writeDest hp hphase h, if_pos hl, lineEnd_terminates (s := wordWritten s u) hy]
  simp only [wordWritten, hl, hphase, ← hcfg]
  rfl

/-! ### The words of a burst -/

theorem exec_dmaWord {s : State} (hp : pendingStep s = some .dmaWord) :
    exec .dmaWord s = .next (dmaWordStep s) :=
  congrArg Host.Outcome.next (whenStep_enabled hp)

/-- Disk to memory: the buffers stay (R404). -/
theorem dmaWordStep_of_stored {s u : State} (hdir : dmaDir s.dma = false)
    (h : Stored s .dma s.dma.addr (burstData s.dma (burstWord s)) u) :
    dmaWordStep s = afterWord (u.withDma s.dma) := by
  obtain ⟨_, _, _, hd⟩ := h.keeps
  have hu : u.withDma s.dma = u := by
    rw [← hd rfl]
    rfl
  rw [hu, dmaWordStep, hdir]
  exact congrArg afterWord (busWrite_of_stored s u .dma _ _ (by decide) h)

/-- Memory to disk: the word is placed in the memory-side buffer (R404, R405). -/
theorem dmaWordStep_of_fetched {s u : State} {w : Word} (hdir : dmaDir s.dma = true)
    (h : Fetched s .dma s.dma.addr w u) :
    dmaWordStep s = afterWord (u.withDma (placeWord s.dma (burstWord s) w)) := by
  obtain ⟨hw, hu⟩ := busRead_of_fetched s u .dma _ w (by decide) h
  obtain ⟨_, _, _, hd⟩ := h.keeps
  simp only [dmaWordStep, hdir, if_true, hw, hu, hd rfl]

/-- The word placed in the memory-side buffer, high byte above the low one (44_dma.md R405). -/
theorem placeWord_eq (d : Dma) (j : Nat) (w : Word) :
    let placed := ((otherBuf d).setIfInBounds (15 - 2 * j) (hiByte w)).setIfInBounds (14 - 2 * j) (loByte w)
    placeWord d j w = { d with
      buf0 := if d.active = 0 then d.buf0 else placed
      buf1 := if d.active = 0 then placed else d.buf1 } := by
  by_cases h : d.active = 0 <;> simp [placeWord, putOtherBuf, bufPut, h]

/-- After a word that is not the burst's last (R404). -/
theorem afterWord_inside {s : State} (h : 2 ≤ s.bus.burstLeft) :
    afterWord s = { s with
      dma := { s.dma with addr := stepAddr s.cfg s.dma.addr 2 }
      bus := { s.bus with burstLeft := s.bus.burstLeft - 1 } } :=
  if_neg (show ¬ s.bus.burstLeft - 1 = 0 by omega)

/-- After the last word of a burst (R404). -/
theorem afterWord_last {s : State} (h : s.bus.burstLeft = 1) :
    afterWord s = endBurst { s with
      dma := { s.dma with addr := stepAddr s.cfg s.dma.addr 2 }
      bus := { s.bus with burstLeft := 0 } } := by
  have h0 : s.bus.burstLeft - 1 = 0 := by omega
  rw [← h0]
  exact if_pos h0

/-- Settles O38: the word, with the buffers it leaves, then `afterWord` inside the burst. -/
theorem dmaWordInsideABurst : Obligations.DmaWordInsideABurst := by
  intro s u w hp h2 _ d j o placed
  rw [exec_dmaWord hp]
  refine ⟨fun hdir h => ?_, fun hdir h => ?_⟩
  · obtain ⟨hcfg, hleft, _, _⟩ := h.keeps
    rw [dmaWordStep_of_stored hdir h, afterWord_inside (s := u.withDma d) (hleft ▸ h2), ← hcfg, ← hleft]
    rfl
  · obtain ⟨hcfg, hleft, _, _⟩ := h.keeps
    rw [dmaWordStep_of_fetched hdir h, afterWord_inside (s := u.withDma _) (hleft ▸ h2), placeWord_eq, ← hcfg,
      ← hleft]
    rfl

/-- The engine's registers after a burst: the flag of the memory-side buffer, 16 more bytes, at 512 a sector less
(R404). -/
def burstCounted (d : Dma) : Dma :=
  { d with
    otherFull := dmaDir d
    byteCnt := if d.byteCnt = 496 then 0 else d.byteCnt + 16
    sectorCount := if d.byteCnt = 496 then d.sectorCount - 1 else d.sectorCount }

/-- A sector less moves the engine's line (R404, R411). -/
theorem countBurst_eq (s : State) : countBurst s =
    if s.dma.byteCnt = 496 then
      lineMoved (s.withDma (burstCounted s.dma)) s.cfg.dmaGpio ((burstCounted s.dma).sectorCount != 0)
    else s.withDma (burstCounted s.dma) := by
  by_cases h : s.dma.byteCnt = 496
  · simp only [countBurst, burstCounted, h, lineUpdate_eq, State.withDma_dma, if_true]
    rfl
  · simp [countBurst, burstCounted, h]

/-- The buffers swap when the controller side is done with its own (R398). -/
theorem trySwap_burstCounted (d : Dma) : trySwap (burstCounted d) =
    if d.idx = 16 then { burstCounted d with active := 1 - d.active, idx := 0, otherFull := !dmaDir d }
    else burstCounted d := by
  have hdone : ((burstCounted d).idx = 16 ∧ (burstCounted d).otherFull = dmaDir (burstCounted d)) ↔ d.idx = 16 :=
    ⟨And.left, fun h => ⟨h, rfl⟩⟩
  simp only [trySwap, hdone]
  rfl

theorem lineMoved_dma (s : State) (i : BitVec 3) (v : Bool) : (lineMoved s i v).dma = s.dma := by
  obtain ⟨_, hdma, _⟩ := setGpioBit_units s i v
  rw [← setGpioBit_eq, hdma]

theorem countBurst_dma (s : State) : (countBurst s).dma = burstCounted s.dma := by
  rw [countBurst_eq]
  split
  · exact lineMoved_dma _ _ _
  · rfl

/-- The end of a burst (R404): the counters, the trace record, the release of the bus, the swap. -/
theorem endBurst_eq (s : State) : endBurst s =
    ((tracing (countBurst s) (.dmaBurstComplete s.dma.addr (burstCounted s.dma).sectorCount)).withOwner .cpu).withDma
      (trySwap (burstCounted s.dma)) := by
  have unfolded : endBurst s = ((tracing (countBurst s) (.dmaBurstComplete (countBurst s).dma.addr
      (countBurst s).dma.sectorCount)).withOwner .cpu).withDma (trySwap (countBurst s).dma) := rfl
  rw [unfolded, countBurst_dma]
  rfl

/-- Settles O39: the word, with the buffers it leaves, then `endBurst`. -/
theorem dmaBurstEnds : Obligations.DmaBurstEnds := by
  intro s u w hp h1 _ d o placed finish
  have hj : burstWord s = 7 := by simp [burstWord, h1]
  have ends (d1 : Dma) (hcfg : u.cfg = s.cfg) (hleft : u.bus.burstLeft = s.bus.burstLeft) (hmode : d1.mode = d.mode)
      (hcount : d1.byteCnt = d.byteCnt) (hsect : d1.sectorCount = d.sectorCount) (hidx : d1.idx = d.idx)
      (hact : d1.active = d.active) (haddr : d1.addr = d.addr) : afterWord (u.withDma d1) = finish d1 := by
    rw [afterWord_last (s := u.withDma d1) (hleft.trans h1), endBurst_eq, trySwap_burstCounted, countBurst_eq]
    simp only [finish, ← hcfg, ← hmode, ← hcount, ← hsect, ← hidx, ← hact, ← haddr, State.withDma_dma]
    by_cases hs : d1.byteCnt = 496
    · simp only [burstCounted, hs, if_true]
      rfl
    · simp only [burstCounted, hs, if_false]
      rfl
  rw [exec_dmaWord hp]
  refine ⟨fun hdir h => ?_, fun hdir h => ?_⟩
  · have hstored : Stored s .dma d.addr (burstData d (burstWord s)) u := by
      rw [hj]
      exact h
    obtain ⟨hcfg, hleft, _, _⟩ := h.keeps
    rw [dmaWordStep_of_stored hdir hstored, ends d hcfg hleft rfl rfl rfl rfl rfl rfl]
  · obtain ⟨hcfg, hleft, _, _⟩ := h.keeps
    rw [dmaWordStep_of_fetched hdir h, hj, placeWord_eq]
    exact congrArg Host.Outcome.next (ends _ hcfg hleft rfl rfl rfl rfl rfl rfl)

end Sys2Proof.Machine
end

section
/-! RAM is changed by stores alone (20_memory.md R87): what each instruction can do, and that all but five leave RAM as
it is. -/

namespace Sys2Proof.Machine

/-! ### The register rows and the field codes -/

/-- The commands and the calls: the instructions that are neither a register row nor a field code
(30_encoding.md R110). -/
def isCommandOrCall : Instr → Bool
  | .run _ | .rdB _ | .rdW _ | .wrB _ _ | .wrW _ _ | .iack _ | .gpio _ _ | .int _ | .tai _ | .dbin _ | .dbout
  | .resetC | .resetW | .snap | .restore _ | .schedule _ _ | .advance | .requestBus _ _ | .idle _
  | .setGpioBit _ _ | .pushSample _ | .fire | .grantDma | .grantBlit | .blitPhase | .dmaWord => true
  | _ => false

/-- What a register row or a field code can do: an access of the CPU to a bank, the write rule of one register, or
the mode of one timer. -/
inductive RowEffect (s : State) : State → Prop
  | access16 (b : Bank) (o : Nat) (acc : Acc16) : RowEffect s (access16At s b o acc)
  | access8 (b : Bank) (o : Nat) (acc : Acc8) : RowEffect s (access8At s b o acc)
  | write (r : Reg) (v : BitVec 32) : RowEffect s (regWrite s r v)
  | mode (id : TimerId) (m : BitVec 4) : RowEffect s (setMode s id m)

/-- A field code of a one-byte register is the register's write rule `f` on the code. -/
theorem RowEffect.byteCode {s : State} (r : Reg) (f : Byte → State) (hf : ∀ v, regWrite s r v = f (v.setWidth 8))
    (b : Byte) : RowEffect s (f b) := by
  have h := RowEffect.write (s := s) r (wideByte b)
  rwa [hf, wideByte_setWidth] at h

/-- A field code of a two-byte register is the register's write rule `f` on the code. -/
theorem RowEffect.wordCode {s : State} (r : Reg) (f : Word → State) (hf : ∀ v, regWrite s r v = f (v.setWidth 16))
    (w : Word) : RowEffect s (f w) := by
  have h := RowEffect.write (s := s) r (wide w)
  rwa [hf, wide_setWidth] at h

/-- A register row and a field code always give a next state, by one of the effects above. -/
theorem exec_row (i : Instr) (s : State) (h : isCommandOrCall i = false) :
    ∃ t, exec i s = .next t ∧ RowEffect s t := by
  cases i
  case run | rdB | rdW | wrB | wrW | iack | gpio | int | tai | dbin | dbout | resetC | resetW | snap | restore
    | schedule | advance | requestBus | idle | setGpioBit | pushSample | fire | grantDma | grantBlit | blitPhase
    | dmaWord => cases h
  case regBlitHalftone | regBlitSrcXinc | regBlitSrcYinc | regBlitSrcAddrH | regBlitSrcAddrL | regBlitEndmask1
    | regBlitEndmask2 | regBlitEndmask3 | regBlitDstXinc | regBlitDstYinc | regBlitDstAddrH | regBlitDstAddrL
    | regBlitXCount | regBlitYCount | regDmaDataCount | regDmaDataController | regDmaMode | regDmaStatus
    | regVidPaletteRead | regVidPaletteWrite => exact ⟨_, rfl, .access16 _ _ _⟩
  case regBlitHop | regBlitOp | regBlitCtrlRead | regBlitCtrlWrite | regBlitSkew | regMfpGpip | regMfpAer | regMfpDdr
    | regMfpIera | regMfpIerb | regMfpIpra | regMfpIprb | regMfpIsra | regMfpIsrb | regMfpImra | regMfpImrb | regMfpVr
    | regMfpTacr | regMfpTbcr | regMfpTcdcr | regMfpTadr | regMfpTbdr | regMfpTcdr | regMfpTddr | regDmaAddrHi
    | regDmaAddrMid | regDmaAddrLo | regVidSync | regVidShiftModeRead | regVidShiftModeWrite | regVidHscroll
    | regSndSndCtrl | regSndSndMode => exact ⟨_, rfl, .access8 _ _ _⟩
  case opZero | opAnd | opAndNotd | opSrc | opNotsAnd | opDst | opXor | opOr | opNor | opXnor | opNotd | opOrNotd
    | opNots | opNotsOr | opNand | opOne => exact ⟨_, rfl, .byteCode .op (writeOp s) (fun _ => rfl) _⟩
  case hopOnes | hopHalftone | hopSource | hopSrcAndHt =>
    exact ⟨_, rfl, .byteCode .hop (writeHop s) (fun _ => rfl) _⟩
  case dmaRead | dmaWrite => exact ⟨_, rfl, .wordCode .mode (writeDmaMode s) (fun _ => rfl) _⟩
  case resLow | resMed | resHigh | resRsv3 =>
    exact ⟨_, rfl, .byteCode .shiftMode (writeShiftMode s) (fun _ => rfl) _⟩
  case freq60 | freq50 => exact ⟨_, rfl, .byteCode .sync (writeSync s) (fun _ => rfl) _⟩
  case rate0 | rate1 | rate2 | rate3 => exact ⟨_, rfl, .byteCode .sndMode (writeSndMode s) (fun _ => rfl) _⟩
  case sndOff | sndOn => exact ⟨_, rfl, .byteCode .sndCtrl (writeSndCtrl s) (fun _ => rfl) _⟩
  -- the modes of the timers
  all_goals exact ⟨_, rfl, .mode _ _⟩

/-! ### What leaves RAM alone -/

/-- RAM, and the count of cold resets that its unwritten bytes depend on, are the same. -/
def KeepsRam (s t : State) : Prop := t.mem = s.mem ∧ t.env.coldResets = s.env.coldResets

theorem KeepsRam.refl (s : State) : KeepsRam s s := ⟨rfl, rfl⟩

theorem KeepsRam.trans {s t u : State} (h : KeepsRam s t) (h' : KeepsRam t u) : KeepsRam s u :=
  ⟨h'.1.trans h.1, h'.2.trans h.2⟩

theorem KeepsRam.sameRam {s t : State} (h : KeepsRam s t) : SameRam s t := fun a => ramByte_congr h.1 h.2 a

/-- Both arms of a choice. -/
theorem KeepsRam.ite {s a b : State} {c : Prop} [Decidable c] (ha : KeepsRam s a) (hb : KeepsRam s b) :
    KeepsRam s (if c then a else b) := by
  split
  · exact ha
  · exact hb

theorem KeepsRam.whenCpu {s : State} {f : State → State} (h : KeepsRam s (f s)) : KeepsRam s (whenCpu s f) :=
  .ite h ⟨rfl, rfl⟩

theorem KeepsRam.whenEnvironment {s : State} {f : State → State} (h : KeepsRam s (f s)) :
    KeepsRam s (whenEnvironment s f) :=
  .ite ⟨rfl, rfl⟩ h

theorem KeepsRam.whenStep {s : State} {k : InternalStep} {f : State → State} (h : KeepsRam s (f s)) :
    KeepsRam s (whenStep s k f) :=
  .ite h ⟨rfl, rfl⟩

/-! Interrupt lines and timers -/

theorem mfpEvent_keepsRam (s : State) (src : BitVec 4) : KeepsRam s (mfpEvent s src) := by
  obtain ⟨p, tr, h⟩ := mfpEvent_frame s src
  exact h ▸ ⟨rfl, rfl⟩

theorem setGpioBit_keepsRam (s : State) (i : BitVec 3) (v : Bool) : KeepsRam s (setGpioBit s i v) := by
  obtain ⟨p, tr, h⟩ := setGpioBit_frame s i v
  exact h ▸ ⟨rfl, rfl⟩

theorem setMode_keepsRam (s : State) (id : TimerId) (m : BitVec 4) : KeepsRam s (setMode s id m) := by
  obtain ⟨_, _, _, h⟩ | ⟨_, _, _, h⟩ | ⟨_, h⟩ := setMode_cases s id m <;> exact h ▸ ⟨rfl, rfl⟩

theorem underflow_keepsRam (s : State) (id : TimerId) (t : Nat) : KeepsRam s (underflow s id t) := by
  refine (mfpEvent_keepsRam s (timerSource id)).trans ?_
  simp only [underflow]
  split <;> exact ⟨rfl, rfl⟩

theorem timerInput_keepsRam (s : State) (t : TimerAB) (v : Bool) : KeepsRam s (timerInput s t v) := by
  unfold timerInput
  refine .ite (.ite ?_ ⟨rfl, rfl⟩) ⟨rfl, rfl⟩
  exact mfpEvent_keepsRam (s.withMfp (putInputLevel s.mfp t v)) (timerSource (timerOfAB t))

/-! The register rules -/

theorem blitStart_keepsRam (s : State) : KeepsRam s (blitStart s) := by
  have started (b : Blit) : KeepsRam s (s.withBlit b) := ⟨rfl, rfl⟩
  have requested (t : State) : KeepsRam t (requestBlit t) := ⟨rfl, rfl⟩
  exact ((started _).trans (setGpioBit_keepsRam _ _ true)).trans (requested _)

theorem blitAbort_keepsRam (s : State) : KeepsRam s (blitAbort s) := by
  have stopped (b : Blit) : KeepsRam s (schedule (s.withBlit b) .blitResume none) := ⟨rfl, rfl⟩
  exact (stopped _).trans (setGpioBit_keepsRam _ _ false)

theorem writeBlitCtrl_keepsRam (s : State) (v : Byte) : KeepsRam s (writeBlitCtrl s v) := by
  have written (b : Blit) : KeepsRam s (s.withBlit b) := ⟨rfl, rfl⟩
  unfold writeBlitCtrl
  refine .ite (.ite ⟨rfl, rfl⟩ ?_) (.ite ?_ (written _))
  · exact (written _).trans (blitStart_keepsRam _)
  · exact (written _).trans (blitAbort_keepsRam _)

theorem regRead_keepsRam (s : State) (r : Reg) : KeepsRam s (regRead s r).2 := by
  cases r
  case data =>
    simp only [regRead, readDmaData, drawCtrl]
    split
    · exact ⟨rfl, rfl⟩
    · split <;> exact ⟨rfl, rfl⟩
  all_goals exact ⟨rfl, rfl⟩

theorem regWrite_keepsRam (s : State) (r : Reg) (v : BitVec 32) : KeepsRam s (regWrite s r v) := by
  cases r <;> simp only [regWrite]
  case ctrl => exact writeBlitCtrl_keepsRam _ _
  case tacr | tbcr => exact setMode_keepsRam _ _ _
  case tcdcr => exact (setMode_keepsRam _ _ _).trans (setMode_keepsRam _ _ _)
  case tadr | tbdr | tcdr | tddr => exact .ite ⟨rfl, rfl⟩ ⟨rfl, rfl⟩
  case data => exact .ite (setGpioBit_keepsRam (s.withDma _) _ _) ⟨rfl, rfl⟩
  case mode => exact .ite ⟨rfl, rfl⟩ (setGpioBit_keepsRam (s.withDma _) _ _)
  case sndCtrl => exact .ite ⟨rfl, rfl⟩ (.ite ⟨rfl, rfl⟩ ⟨rfl, rfl⟩)
  all_goals exact ⟨rfl, rfl⟩

theorem regReadByte_keepsRam (s : State) (b : Bank) (o : Nat) : KeepsRam s (regReadByte s b o).2 := by
  unfold regReadByte
  split
  · exact .refl s
  · exact regRead_keepsRam _ _

theorem regReadWord_keepsRam (s : State) (b : Bank) (o : Nat) : KeepsRam s (regReadWord s b o).2 := by
  have two := (regReadByte_keepsRam s b o).trans (regReadByte_keepsRam (regReadByte s b o).2 b (o + 1))
  unfold regReadWord
  split
  · split
    · exact regRead_keepsRam _ _
    · exact two
  · exact two

theorem regWriteByte_keepsRam (s : State) (b : Bank) (o : Nat) (v : Byte) : KeepsRam s (regWriteByte s b o v) := by
  unfold regWriteByte
  split
  · exact .refl s
  · exact .ite (regWrite_keepsRam _ _ _) ((regRead_keepsRam _ _).trans (regWrite_keepsRam _ _ _))

theorem regWriteWord_keepsRam (s : State) (b : Bank) (o : Nat) (v : Word) : KeepsRam s (regWriteWord s b o v) := by
  have two := (regWriteByte_keepsRam s b o (hiByte v)).trans
    (regWriteByte_keepsRam (regWriteByte s b o (hiByte v)) b (o + 1) (loByte v))
  unfold regWriteWord
  split
  · exact .ite (.ite (regWrite_keepsRam _ _ _) ((regRead_keepsRam _ _).trans (regWrite_keepsRam _ _ _))) two
  · exact two

/-! Transactions: no read, and a write only in the region RAM -/

theorem transacted_keepsRam {s t : State} (h : KeepsRam s t) (u : Master) (a : Addr) (v : Word) (w : Width) (d : Dir)
    (ticks : Nat) : KeepsRam s (transacted t u a v w d ticks) := h

theorem txRead_keepsRam (s : State) (u : Master) (a p : Addr) (r : Region) (w : Width) :
    KeepsRam s (txRead s u a p r w).2 := by
  cases r with
  | bank b o =>
    cases w with
    | byte => exact (txRead_bank s u a p b o).1 ▸ transacted_keepsRam (regReadByte_keepsRam s b o) _ _ _ _ _ _
    | word => exact (txRead_bank s u a p b o).2 ▸ transacted_keepsRam (regReadWord_keepsRam s b o) _ _ _ _ _ _
  | ram =>
    cases w with
    | byte => exact (txRead_ram s u a p).1 ▸ ⟨rfl, rfl⟩
    | word => exact (txRead_ram s u a p).2 ▸ ⟨rfl, rfl⟩
  | ext =>
    cases w with
    | byte => exact txRead_ext_byte s u a p ▸ ⟨rfl, rfl⟩
    | word => exact txRead_ext s u a p ▸ ⟨rfl, rfl⟩
  | none => exact txRead_none s u a p w ▸ ⟨rfl, rfl⟩

theorem txWrite_keepsRam (s : State) (u : Master) (a p : Addr) (r : Region) (w : Width) (v : Word) (hr : r ≠ .ram) :
    KeepsRam s (txWrite s u a p r w v) := by
  cases r with
  | bank b o =>
    cases w with
    | byte => exact (txWrite_bank s u a p b o v).1 ▸ transacted_keepsRam (regWriteByte_keepsRam s b o _) _ _ _ _ _ _
    | word => exact (txWrite_bank s u a p b o v).2 ▸ transacted_keepsRam (regWriteWord_keepsRam s b o v) _ _ _ _ _ _
  | ram => exact absurd rfl hr
  | ext => exact txWrite_ext s u a p w v ▸ ⟨rfl, rfl⟩
  | none => exact txWrite_none s u a p w v ▸ ⟨rfl, rfl⟩

theorem reportRead_keepsRam {s : State} {x : Option Word × State} (w : Width) (h : KeepsRam s x.2) :
    KeepsRam s (reportRead w x) := by
  obtain ⟨_ | v, t⟩ := x <;> exact h

theorem bankRead_keepsRam (s : State) (b : Bank) (o : Nat) (w : Width) : KeepsRam s (bankRead s b o w) :=
  .whenCpu (reportRead_keepsRam w (txRead_keepsRam s .cpu _ _ _ w))

theorem bankWrite_keepsRam (s : State) (b : Bank) (o : Nat) (w : Width) (v : Word) :
    KeepsRam s (bankWrite s b o w v) :=
  .whenCpu (txWrite_keepsRam s .cpu _ _ _ w v (by simp))

theorem RowEffect.keepsRam {s t : State} (h : RowEffect s t) : KeepsRam s t := by
  cases h with
  | access16 b o acc =>
    match acc with
    | .rd l => exact bankRead_keepsRam _ _ _ _
    | .wr (.hi v) => exact bankWrite_keepsRam _ _ _ _ _
    | .wr (.lo v) => exact bankWrite_keepsRam _ _ _ _ _
    | .wr (.both v) => exact bankWrite_keepsRam _ _ _ _ _
  | access8 b o acc =>
    match acc with
    | .rd => exact bankRead_keepsRam _ _ _ _
    | .wr v => exact bankWrite_keepsRam _ _ _ _ _
  | write r v => exact regWrite_keepsRam _ _ _
  | mode id m => exact setMode_keepsRam _ _ _

/-! The callbacks, reset and restore -/

theorem latchAndArm_keepsRam (s : State) (m : VideoMode) (t : Nat) : KeepsRam s (latchAndArm s m t) := by
  simp only [latchAndArm]
  split <;> exact ⟨rfl, rfl⟩

theorem drawSample_keepsRam (s : State) : KeepsRam s (drawSample s).2 := by
  unfold drawSample
  split <;> exact ⟨rfl, rfl⟩

theorem pushSample_keepsRam (s : State) (w : Word) : KeepsRam s (pushSample s w) := .ite ⟨rfl, rfl⟩ ⟨rfl, rfl⟩

theorem fillFifo_keepsRam (n : Nat) (s : State) : KeepsRam s (fillFifo n s) := by
  induction n generalizing s with
  | zero => exact .refl s
  | succ n ih =>
    exact .ite (((drawSample_keepsRam s).trans (pushSample_keepsRam _ _)).trans (ih _)) (.refl s)

theorem sndDrain_keepsRam (s : State) (t : Nat) : KeepsRam s (sndDrain s t) := by
  unfold sndDrain
  split <;> exact ⟨rfl, rfl⟩

theorem callback_keepsRam (s : State) (id : SlotId) (t : Nat) : KeepsRam s (callback s id t) := by
  cases id with
  | ta | tb | tc | td => exact underflow_keepsRam _ _ _
  | blitResume => exact .ite ⟨rfl, rfl⟩ (.refl s)
  | vidLine => exact latchAndArm_keepsRam (s.withVid _) _ _
  | vidDeOn | vidDeOff => exact timerInput_keepsRam (s.withVid _) _ _
  | vidHb => exact .ite (fillFifo_keepsRam 4 s) (.refl s)
  | sndDrain => exact sndDrain_keepsRam _ _

theorem fireOne_keepsRam (s : State) : KeepsRam s (fireOne s) := by
  unfold fireOne fireSlot
  split
  · split
    · exact callback_keepsRam (clearSlot s _) _ _
    · exact .refl s
  · exact .refl s

theorem advanceLoop_keepsRam (n : Nat) (s t : State) (h : advanceLoop n s = some t) : KeepsRam s t := by
  induction n generalizing s with
  | zero =>
    unfold advanceLoop at h
    split at h
    · cases h
    · exact Option.some.inj h ▸ .refl s
  | succ n ih =>
    unfold advanceLoop at h
    split at h
    · exact (fireOne_keepsRam s).trans (ih _ h)
    · exact Option.some.inj h ▸ .refl s

theorem recoverIf_keepsRam {s t : State} (bad : Bool) (f : State → State) (hf : ∀ x, KeepsRam x (f x))
    (h : KeepsRam s t) : KeepsRam s (recoverIf bad f t) := .ite (h.trans (hf t)) h

theorem blitToIdle_keepsRam (s : State) : KeepsRam s (blitToIdle s) := by
  simp only [blitToIdle]
  split <;> exact ⟨rfl, rfl⟩

theorem videoReset_keepsRam (s : State) : KeepsRam s (videoReset s) := by
  have started (v : Vid) : KeepsRam s (s.withVid v) := ⟨rfl, rfl⟩
  exact (started _).trans (latchAndArm_keepsRam _ _ _)

theorem resetCommon_keepsRam (s : State) : KeepsRam s (resetCommon s) := by
  have units : KeepsRam s (resetUnits s) := ⟨rfl, rfl⟩
  exact units.trans (videoReset_keepsRam _)

theorem videoToReset_keepsRam (s : State) : KeepsRam s (videoToReset s) := by
  have cleared (x : SlotId) {t : State} (h : KeepsRam s t) : KeepsRam s (clearSlot t x) := h
  have blanked {t : State} (h : KeepsRam s t) : KeepsRam s (t.withVid Vid.blank) := h
  have traced {t : State} (h : KeepsRam s t) (e : TraceRec) : KeepsRam s (emitTrace t e) := h
  have slots := cleared .vidHb (cleared .vidDeOff (cleared .vidDeOn (cleared .vidLine (KeepsRam.refl s))))
  exact traced ((blanked slots).trans (videoReset_keepsRam _)) _

theorem restoreDump_keepsRam (s : State) (d : Dump) : KeepsRam s (restoreDump s d) :=
  recoverIf_keepsRam _ _ videoToReset_keepsRam <| recoverIf_keepsRam _ _ (fun _ => ⟨rfl, rfl⟩) <|
    recoverIf_keepsRam _ _ (fun _ => ⟨rfl, rfl⟩) <| recoverIf_keepsRam _ _ (fun _ => ⟨rfl, rfl⟩) <|
    recoverIf_keepsRam _ _ blitToIdle_keepsRam ⟨rfl, rfl⟩

/-! The disk's side of the DMA engine -/

theorem diskIn_keepsRam (s : State) (b : Byte) : KeepsRam s (diskIn s b) :=
  .ite ⟨rfl, rfl⟩ (.ite (.refl s) (.ite ⟨rfl, rfl⟩ ⟨rfl, rfl⟩))

theorem diskOut_keepsRam (s : State) : KeepsRam s (diskOut s) :=
  .ite ⟨rfl, rfl⟩ (.ite ⟨rfl, rfl⟩ ⟨rfl, rfl⟩)

/-! The instructions -/

theorem execIack_keepsRam {l : BitVec 3} {s t : State} (h : execIack l s = .next t) : KeepsRam s t := by
  refine Host.Outcome.next.inj h ▸ .whenCpu (.ite ?_ ⟨rfl, rfl⟩)
  split <;> exact ⟨rfl, rfl⟩

theorem execRestore_keepsRam {d : Option Dump} {s t : State} (h : execRestore d s = .next t) : KeepsRam s t := by
  unfold execRestore at h
  split at h
  · split at h
    · exact Host.Outcome.next.inj h ▸ restoreDump_keepsRam s _
    · exact Host.Outcome.next.inj h ▸ ⟨rfl, rfl⟩
  · exact Host.Outcome.next.inj h ▸ ⟨rfl, rfl⟩

theorem execAdvance_keepsRam {s t : State} (h : execAdvance s = .next t) : KeepsRam s t := by
  unfold execAdvance at h
  split at h
  · rename_i s' hs'
    exact Host.Outcome.next.inj h ▸ advanceLoop_keepsRam _ s s' hs'
  · cases h

/-- Every instruction but the two CPU writes, BLIT_PHASE, DMA_WORD and RESET.C leaves RAM alone. -/
theorem exec_keepsRam (i : Instr) (s t : State) (h : exec i s = .next t) (hB : ∀ a v, i ≠ .wrB a v)
    (hW : ∀ a v, i ≠ .wrW a v) (hblit : i ≠ .blitPhase) (hdma : i ≠ .dmaWord) (hcold : i ≠ .resetC) :
    KeepsRam s t := by
  cases hrow : isCommandOrCall i with
  | false =>
    obtain ⟨t', ht', effect⟩ := exec_row i s hrow
    obtain rfl : t' = t := Host.Outcome.next.inj (ht'.symm.trans h)
    exact effect.keepsRam
  | true =>
    cases i
    case wrB a v => exact absurd rfl (hB a v)
    case wrW a v => exact absurd rfl (hW a v)
    case blitPhase => exact absurd rfl hblit
    case dmaWord => exact absurd rfl hdma
    case resetC => exact absurd rfl hcold
    case iack => exact execIack_keepsRam h
    case restore => exact execRestore_keepsRam h
    case advance => exact execAdvance_keepsRam h
    case requestBus u _ => cases u <;> exact Host.Outcome.next.inj h ▸ ⟨rfl, rfl⟩
    case run => exact Host.Outcome.next.inj h ▸ .whenCpu (.ite ⟨rfl, rfl⟩ ⟨rfl, rfl⟩)
    case rdB => exact Host.Outcome.next.inj h ▸ .whenCpu (reportRead_keepsRam _ (txRead_keepsRam s .cpu _ _ _ _))
    case rdW =>
      exact Host.Outcome.next.inj h ▸
        .whenCpu (.ite ⟨rfl, rfl⟩ (reportRead_keepsRam _ (txRead_keepsRam s .cpu _ _ _ _)))
    case gpio => exact Host.Outcome.next.inj h ▸ .whenEnvironment (.ite ⟨rfl, rfl⟩ (setGpioBit_keepsRam _ _ _))
    case int => exact Host.Outcome.next.inj h ▸ .whenEnvironment (.ite (mfpEvent_keepsRam _ _) ⟨rfl, rfl⟩)
    case tai => exact Host.Outcome.next.inj h ▸ .whenEnvironment (timerInput_keepsRam _ _ _)
    case dbin => exact Host.Outcome.next.inj h ▸ .whenEnvironment (diskIn_keepsRam _ _)
    case dbout => exact Host.Outcome.next.inj h ▸ .whenEnvironment (diskOut_keepsRam _)
    case resetW => exact Host.Outcome.next.inj h ▸ resetCommon_keepsRam s
    case setGpioBit => exact Host.Outcome.next.inj h ▸ setGpioBit_keepsRam _ _ _
    case pushSample => exact Host.Outcome.next.inj h ▸ pushSample_keepsRam _ _
    case fire => exact Host.Outcome.next.inj h ▸ .whenStep (fireOne_keepsRam s)
    case grantDma | grantBlit => exact Host.Outcome.next.inj h ▸ .whenStep ⟨rfl, rfl⟩
    case snap | schedule | idle => exact Host.Outcome.next.inj h ▸ ⟨rfl, rfl⟩
    -- the rows
    all_goals cases hrow

/-! ### The words the blitter and the DMA engine store -/

theorem KeepsRam.sameOutside {s t : State} (h : KeepsRam s t) (a n : Nat) : SameRamOutside s t a n :=
  fun x _ => h.sameRam x

theorem SameRamOutside.keeps {s t u : State} {a n : Nat} (h : SameRamOutside s t a n) (h' : KeepsRam t u) :
    SameRamOutside s u a n :=
  fun x hx => (h'.sameRam x).trans (h x hx)

/-- A word write changes no byte of RAM but the two at the remapped address. -/
theorem busWrite_word_outside (s : State) (u : Master) (a : Addr) (v : Word) :
    SameRamOutside s (busWrite s u a .word v) (remapAddr s.cfg (onBus s.cfg a)).toNat 2 := by
  by_cases hr : regionOf s.cfg (remapAddr s.cfg (onBus s.cfg a)) = .ram
  · intro x hx
    rw [busWrite_ram_word v hr, ramByte_transacted, ramByte_ramPutWord, if_neg (by omega), if_neg (by omega)]
  · exact (txWrite_keepsRam s u _ _ _ .word v hr).sameOutside _ _

theorem blitRead_keepsRam (s : State) (a : Addr) : KeepsRam s (blitRead s a).2 := by
  have counted (t : State) : KeepsRam t (countTransaction t) := ⟨rfl, rfl⟩
  exact (txRead_keepsRam s .blit _ _ _ .word).trans (counted _)

theorem toPhase_keepsRam (s : State) (b : Blit) (p : BitVec 3) : KeepsRam s (toPhase (s.withBlit b) p) := ⟨rfl, rfl⟩

theorem blitPrime_keepsRam (s : State) : KeepsRam s (blitPrime s) :=
  (blitRead_keepsRam s s.blit.srcAddr).trans (toPhase_keepsRam _ _ _)

theorem blitReadSource_keepsRam (s : State) : KeepsRam s (blitReadSource s) :=
  (blitRead_keepsRam s s.blit.srcAddr).trans (toPhase_keepsRam _ _ _)

theorem blitReadDest_keepsRam (s : State) : KeepsRam s (blitReadDest s) :=
  (blitRead_keepsRam s s.blit.dstAddr).trans (toPhase_keepsRam _ _ _)

/-- The reading phases, and the fail-safe of a corrupted phase, leave RAM alone. -/
theorem blitPhaseStep_keepsRam (s : State) (h : s.blit.phase ≠ phaseWriteDest) : KeepsRam s (blitPhaseStep s) := by
  unfold blitPhaseStep
  rw [if_neg h]
  exact .ite (blitPrime_keepsRam s)
    (.ite (blitReadSource_keepsRam s) (.ite (blitReadDest_keepsRam s) (blitToIdle_keepsRam s)))

theorem nextWindow_keepsRam (s : State) : KeepsRam s (nextWindow s) := .ite ⟨rfl, rfl⟩ ⟨rfl, rfl⟩

theorem lineEnd_keepsRam (s : State) : KeepsRam s (lineEnd s) :=
  .ite (setGpioBit_keepsRam (State.withOwner (s.withBlit _) .cpu) _ false) (nextWindow_keepsRam (s.withBlit _))

theorem blitWriteDest_outside (s : State) :
    SameRamOutside s (blitWriteDest s) (remapAddr s.cfg (onBus s.cfg s.blit.dstAddr)).toNat 2 := by
  have h := busWrite_word_outside s .blit s.blit.dstAddr (blitOut s.blit)
  unfold blitWriteDest
  generalize busWrite s .blit s.blit.dstAddr .word (blitOut s.blit) = t at h ⊢
  have released (b : Blit) :
      KeepsRam t ((toPhase ((countTransaction t).withBlit b) phaseIdle).withOwner .cpu) := by
    simp [KeepsRam, toPhase, countTransaction]
  refine h.keeps ?_
  dsimp only
  split
  · exact (released _).trans (lineEnd_keepsRam _)
  · exact (released _).trans (nextWindow_keepsRam _)

theorem blitPhaseStep_outside (s : State) :
    SameRamOutside s (blitPhaseStep s) (remapAddr s.cfg (onBus s.cfg s.blit.dstAddr)).toNat 2 := by
  by_cases h : s.blit.phase = phaseWriteDest
  · have hstep : blitPhaseStep s = blitWriteDest s := by
      simp [blitPhaseStep, h, phasePrime, phaseReadSource, phaseReadDest, phaseWriteDest]
    exact hstep ▸ blitWriteDest_outside s
  · exact (blitPhaseStep_keepsRam s h).sameOutside _ _

theorem countBurst_keepsRam (s : State) : KeepsRam s (countBurst s) :=
  .ite (setGpioBit_keepsRam (State.withDma _ _) _ _) ⟨rfl, rfl⟩

theorem endBurst_keepsRam (s : State) : KeepsRam s (endBurst s) := by
  have closed (t : State) (e : TraceRec) (d : Dma) : KeepsRam t (((emitTrace t e).withOwner .cpu).withDma d) :=
    ⟨rfl, rfl⟩
  exact (countBurst_keepsRam s).trans (closed _ _ _)

theorem afterWord_keepsRam (s : State) : KeepsRam s (afterWord s) := by
  have moved (d : Dma) (b : Bus) : KeepsRam s ((s.withDma d).withBus b) := ⟨rfl, rfl⟩
  exact .ite ((moved _ _).trans (endBurst_keepsRam _)) (moved _ _)

theorem dmaWordStep_keepsRam (s : State) (h : dmaDir s.dma = true) : KeepsRam s (dmaWordStep s) := by
  have placed (t : State) (d : Dma) : KeepsRam t (t.withDma d) := ⟨rfl, rfl⟩
  have hread : KeepsRam s (busRead s .dma s.dma.addr .word).2 := txRead_keepsRam s .dma _ _ _ .word
  unfold dmaWordStep
  rw [if_pos h]
  exact (hread.trans (placed _ _)).trans (afterWord_keepsRam _)

theorem dmaWordStep_outside (s : State) :
    SameRamOutside s (dmaWordStep s) (remapAddr s.cfg (onBus s.cfg s.dma.addr)).toNat 2 := by
  by_cases h : dmaDir s.dma = true
  · exact (dmaWordStep_keepsRam s h).sameOutside _ _
  · unfold dmaWordStep
    rw [if_neg h]
    exact (busWrite_word_outside s .dma _ _).keeps (afterWord_keepsRam _)

/-- A step that is not the enabled one is turned away and so keeps what the step keeps. -/
theorem whenStep_elim {s : State} {k : InternalStep} {f : State → State} {p : State → Prop} (h : p (f s))
    (haway : p (turnAway s .notEnabled)) : p (whenStep s k f) := by
  unfold whenStep
  split
  · exact h
  · exact haway

/-- Settles O57: `exec_keepsRam` for all instructions but five, and for the blitter and the DMA engine the one word
their step stores. -/
theorem onlyStoresChangeRam : Obligations.OnlyStoresChangeRam := by
  refine ⟨fun i s t h hB hW hblit hdma hcold => (exec_keepsRam i s t h hB hW hblit hdma hcold).sameRam,
    fun s t => ⟨fun h => ?_, fun h => ?_⟩⟩
  · obtain rfl := Host.Outcome.next.inj h
    have away : KeepsRam s (turnAway s .notEnabled) := ⟨rfl, rfl⟩
    refine ⟨?_, fun hphase => ?_⟩
    · exact whenStep_elim (p := fun t => SameRamOutside s t _ _) (blitPhaseStep_outside s) (away.sameOutside _ _)
    · exact (KeepsRam.whenStep (blitPhaseStep_keepsRam s hphase)).sameRam
  · obtain rfl := Host.Outcome.next.inj h
    have away : KeepsRam s (turnAway s .notEnabled) := ⟨rfl, rfl⟩
    refine ⟨?_, fun hdir => ?_⟩
    · exact whenStep_elim (p := fun t => SameRamOutside s t _ _) (dmaWordStep_outside s) (away.sameOutside _ _)
    · exact (KeepsRam.whenStep (dmaWordStep_keepsRam s hdir)).sameRam

end Sys2Proof.Machine
end

section
/-! The words of the table and the operation codes of the blitter (30_encoding.md R110, R120, R121; 42_blitter.md
R240 to R260). -/

namespace Sys2Proof.Machine

/-! ### Words of the table -/

/-- Settles O3: the placed word is the first command, its turn has come, it decodes to the instruction, and the queue
that waits behind it is the one that waited before. -/
theorem placedWordRuns : Obligations.PlacedWordRuns := by
  intro s nbits w i hw hmay
  unfold decodeTableWord at hw
  split at hw
  next p hp =>
    have hdecode : decode p = .ok i := by
      cases hd : decode p with
      | ok j =>
        rw [hd] at hw
        exact congrArg Except.ok (Option.some.inj hw)
      | error e =>
        rw [hd] at hw
        cases hw
    have hplaced : placeWordFirst s nbits w = ⟨p, 0⟩ :: s.inbox := by rw [placeWordFirst, hp]
    have hturn (t : State) : turnCome t ⟨p, 0⟩ = true := rfl
    have hkept (t : State) (q : List Request) (k : TakenWhen) : mayTake (t.withInbox q) k = mayTake t k := by
      cases k <;> rfl
    simp only [step, State.withFetchWord, hplaced, State.withInbox_inbox, hturn, hdecode, hkept, hmay, reduceIte]
    rfl
  next => cases hw

/-- Settles O7, by evaluating the decoder on the eight packets. -/
theorem wordsDecodeRight : Obligations.WordsDecodeRight := by
  unfold Obligations.WordsDecodeRight
  decide

/-! ### The operations of the blitter -/

theorem logicCode_cases (op : BitVec 4) : op = 0 ∨ op = 1 ∨ op = 2 ∨ op = 3 ∨ op = 4 ∨ op = 5 ∨ op = 6 ∨ op = 7 ∨
    op = 8 ∨ op = 9 ∨ op = 10 ∨ op = 11 ∨ op = 12 ∨ op = 13 ∨ op = 14 ∨ op = 15 := by
  revert op
  decide

/-- Each logic operation, bit by bit, is the truth table its code writes out (42_blitter.md R260). -/
theorem getLsbD_logicOp (op : BitVec 4) (x d : Word) (n : Nat) (hn : n < 16) :
    (logicOp op x d).getLsbD n = op.getLsbD (3 - (2 * (x.getLsbD n).toNat + (d.getLsbD n).toNat)) := by
  have hones : (0xFFFF : Word).getLsbD n = true := by
    revert n
    decide
  have hzero : (0 : Word).getLsbD n = false := BitVec.getLsbD_zero
  obtain h | h | h | h | h | h | h | h | h | h | h | h | h | h | h | h := logicCode_cases op
  all_goals
    subst op
    simp only [logicOp, reduceIte, BitVec.reduceEq, opZero, opAnd, opAndNotd, opSrc, opNotsAnd, opDst, opXor, opOr,
      opNor, opXnor, opNotd, opOrNotd, opNots, opNotsOr, opNand, opOne, hones, hzero, BitVec.getLsbD_and,
      BitVec.getLsbD_or, BitVec.getLsbD_xor, BitVec.getLsbD_not, hn, decide_true, Bool.true_and]
    generalize x.getLsbD n = p, d.getLsbD n = q
    revert p q
    decide

/-- Settles O49: each row writes its code into the field alone, the logic operations are their truth tables by
`getLsbD_logicOp`, and the halftone operations are the rules of R240 to R243. -/
theorem blitterOperationCodes : Obligations.BlitterOperationCodes := by
  refine ⟨⟨fun s i op h => ?_, getLsbD_logicOp⟩, fun s i hop h => ?_, fun s h => ⟨rfl, rfl, rfl, rfl⟩⟩
  · simp only [List.mem_cons, Prod.mk.injEq, List.not_mem_nil, or_false] at h
    rcases h with ⟨rfl, rfl⟩ | ⟨rfl, rfl⟩ | ⟨rfl, rfl⟩ | ⟨rfl, rfl⟩ | ⟨rfl, rfl⟩ | ⟨rfl, rfl⟩ | ⟨rfl, rfl⟩ |
      ⟨rfl, rfl⟩ | ⟨rfl, rfl⟩ | ⟨rfl, rfl⟩ | ⟨rfl, rfl⟩ | ⟨rfl, rfl⟩ | ⟨rfl, rfl⟩ | ⟨rfl, rfl⟩ | ⟨rfl, rfl⟩ |
      ⟨rfl, rfl⟩ <;> rfl
  · simp only [List.mem_cons, Prod.mk.injEq, List.not_mem_nil, or_false] at h
    rcases h with ⟨rfl, rfl⟩ | ⟨rfl, rfl⟩ | ⟨rfl, rfl⟩ | ⟨rfl, rfl⟩ <;> rfl

end Sys2Proof.Machine
end

section
/-! The encoding of the commands, the calls and the field codes (30_encoding.md R111, R112, R120 to R127, R130): each
operand decoder against the bytes the encoder writes, in both directions. -/

namespace Sys2Proof.Machine

/-! ### The bytes of a decoded operand -/

/-- The four bytes a natural operand was read from are the ones it is written as. -/
@[simp] theorem bytesOf4_natOf4 (b3 b2 b1 b0 : Byte) : bytesOf4 (natOf4 b3 b2 b1 b0) = [b3, b2, b1, b0] := by
  have hv : BitVec.ofNat 32 (natOf4 b3 b2 b1 b0) = b3 ++ b2 ++ b1 ++ b0 := BitVec.ofNat_toNat _ _
  have above (w : Nat) (x : BitVec w) (b : Byte) (k : Nat) : (x ++ b).extractLsb' (k + 8) 8 = x.extractLsb' k 8 :=
    BitVec.extractLsb'_append_eq_of_le (Nat.le_add_left 8 k)
  have lowest (w : Nat) (x : BitVec w) (b : Byte) : (x ++ b).extractLsb' 0 8 = b :=
    BitVec.extractLsb'_append_eq_right
  simp only [bytesOf4, hv, above, lowest, BitVec.extractLsb'_eq_self]

@[simp] theorem bytesOfAddr_mkAddr (h m l : Byte) : bytesOfAddr (mkAddr h m l) = [h, m, l] := by
  obtain ⟨-, hh, hm, hl⟩ := mkAddr_fits h m l
  rw [bytesOfAddr, hh, hm, hl]

theorem setWidth_of_narrow {w : Nat} {b : Byte} {v : BitVec w} (h : narrow w b = some v) : v.setWidth 8 = b := by
  unfold narrow at h
  split at h
  next hb =>
    obtain rfl := Option.some.inj h
    apply BitVec.eq_of_toNat_eq
    simp only [BitVec.toNat_setWidth, Nat.mod_eq_of_lt hb, Nat.mod_eq_of_lt b.isLt]
  next => cases h

theorem byteOfBit_of_narrowBit {b : Byte} {v : Bool} (h : narrowBit b = some v) : byteOfBit v = b := by
  revert b v
  decide

theorem slotCode_of_slotOfCode {b : Byte} {id : SlotId} (h : slotOfCode b = some id) : slotCode id = b := by
  have hall : ∀ b : Byte, (slotOfCode b).all (fun id => slotCode id == b) = true := by decide
  have hb := hall b
  rw [h] at hb
  exact eq_of_beq hb

theorem timerABCode_of_timerABOfCode {b : Byte} {t : TimerAB} (h : timerABOfCode b = some t) : timerABCode t = b := by
  have hall : ∀ b : Byte, (timerABOfCode b).all (fun t => timerABCode t == b) = true := by decide
  have hb := hall b
  rw [h] at hb
  exact eq_of_beq hb

theorem timerCDCode_of_timerCDOfCode {b : Byte} {t : TimerCD} (h : timerCDOfCode b = some t) : timerCDCode t = b := by
  have hall : ∀ b : Byte, (timerCDOfCode b).all (fun t => timerCDCode t == b) = true := by decide
  have hb := hall b
  rw [h] at hb
  exact eq_of_beq hb

theorem orElse_map_eq_ok {α β : Type} {e : DecodeError} {o : Option α} {f : α → β} {y : β}
    (h : (orElse e o).map f = .ok y) : ∃ x, o = some x ∧ f x = y := by
  cases o with
  | none => cases h
  | some x => exact ⟨x, rfl, Except.ok.inj h⟩

theorem orElse_eq_ok {α : Type} {e : DecodeError} {o : Option α} {x : α} (h : orElse e o = .ok x) : o = some x := by
  cases o with
  | none => cases h
  | some y => rw [Except.ok.inj h]

/-! ### The operands of the commands

A decoder that matches on what its operand bytes hold is opened by `delta`: Lean's equations for such a definition are
costly to generate. -/

theorem bytes_of_bare {j i : Instr} {ops : List Byte} (h : bare j ops = .ok i) : ops = [] ∧ j = i := by
  cases ops with
  | nil => exact ⟨rfl, Except.ok.inj h⟩
  | cons b bs => cases h

theorem decodeRun_bytes (n : Nat) (h : fitsFourBytes n = true) : decodeRun (bytesOf4 n) = .ok (.run n) :=
  congrArg (fun n => Except.ok (Instr.run n)) (natOf4_bytes n h)

theorem encode_of_decodeRun {ops : List Byte} {i : Instr} (h : decodeRun ops = .ok i) :
    encode i = some (cmdPacket (0x00 :: ops)) := by
  match ops, h with
  | [_, _, _, _], h =>
    obtain rfl := Except.ok.inj h
    exact congrArg (fun ops => some (cmdPacket (0x00 :: ops))) (bytesOf4_natOf4 _ _ _ _)

theorem decodeRdB_bytes (a : Addr) (h : fitsThreeBytes a = true) : decodeRdB (bytesOfAddr a) = .ok (.rdB a) :=
  congrArg (fun a => Except.ok (Instr.rdB a)) (mkAddr_bytes a h)

theorem encode_of_decodeRdB {ops : List Byte} {i : Instr} (h : decodeRdB ops = .ok i) :
    encode i = some (cmdPacket (0x01 :: ops)) := by
  match ops, h with
  | [_, _, _], h =>
    obtain rfl := Except.ok.inj h
    exact congrArg (fun ops => some (cmdPacket (0x01 :: ops))) (bytesOfAddr_mkAddr _ _ _)

theorem decodeRdW_bytes (a : Addr) (h : fitsThreeBytes a = true) : decodeRdW (bytesOfAddr a) = .ok (.rdW a) :=
  congrArg (fun a => Except.ok (Instr.rdW a)) (mkAddr_bytes a h)

theorem encode_of_decodeRdW {ops : List Byte} {i : Instr} (h : decodeRdW ops = .ok i) :
    encode i = some (cmdPacket (0x02 :: ops)) := by
  match ops, h with
  | [_, _, _], h =>
    obtain rfl := Except.ok.inj h
    exact congrArg (fun ops => some (cmdPacket (0x02 :: ops))) (bytesOfAddr_mkAddr _ _ _)

theorem decodeWrB_bytes (a : Addr) (v : Byte) (h : fitsThreeBytes a = true) :
    decodeWrB (bytesOfAddr a ++ [v]) = .ok (.wrB a v) :=
  congrArg (fun a => Except.ok (Instr.wrB a v)) (mkAddr_bytes a h)

theorem encode_of_decodeWrB {ops : List Byte} {i : Instr} (h : decodeWrB ops = .ok i) :
    encode i = some (cmdPacket (0x03 :: ops)) := by
  match ops, h with
  | [_, _, _, _], h =>
    obtain rfl := Except.ok.inj h
    exact congrArg (fun a => some (cmdPacket (0x03 :: (a ++ [_])))) (bytesOfAddr_mkAddr _ _ _)

theorem decodeWrW_bytes (a : Addr) (v : Word) (h : fitsThreeBytes a = true) :
    decodeWrW (bytesOfAddr a ++ [hiByte v, loByte v]) = .ok (.wrW a v) :=
  congrArg₂ (fun a v => Except.ok (Instr.wrW a v)) (mkAddr_bytes a h) (mkWord_bytes v)

theorem encode_wrW (a : Addr) (v : Word) :
    encode (.wrW a v) = some (cmdPacket (0x04 :: (bytesOfAddr a ++ [hiByte v, loByte v]))) := rfl

theorem encode_of_decodeWrW {ops : List Byte} {i : Instr} (h : decodeWrW ops = .ok i) :
    encode i = some (cmdPacket (0x04 :: ops)) := by
  match ops, h with
  | [_, _, _, _, _], h =>
    obtain rfl := Except.ok.inj h
    rw [encode_wrW, bytesOfAddr_mkAddr, hiByte_mkWord, loByte_mkWord]
    rfl

theorem decodeIack_byte (l : BitVec 3) : decodeIack [l.setWidth 8] = .ok (.iack l) :=
  congrArg (fun o => (orElse .operandRange o).map Instr.iack) (narrow_three l)

theorem encode_of_decodeIack {ops : List Byte} {i : Instr} (h : decodeIack ops = .ok i) :
    encode i = some (cmdPacket (0x05 :: ops)) := by
  match ops, h with
  | [_], h =>
    obtain ⟨l, hl, rfl⟩ := orElse_map_eq_ok h
    exact congrArg (fun b => some (cmdPacket [0x05, b])) (setWidth_of_narrow hl)

theorem decodeGpio_bytes (n : BitVec 3) (v : Bool) :
    decodeGpio [n.setWidth 8, byteOfBit v] = .ok (.gpio n v) := by
  revert n v
  decide

theorem encode_of_decodeGpio {ops : List Byte} {i : Instr} (h : decodeGpio ops = .ok i) :
    encode i = some (cmdPacket (0x06 :: ops)) := by
  match ops, h with
  | [b, c], h =>
    delta decodeGpio at h
    dsimp only at h
    generalize hn : narrow 3 b = line, hv : narrowBit c = level at h
    match line, level, h with
    | some n, some v, h =>
      obtain rfl := Except.ok.inj h
      exact congrArg₂ (fun b v => some (cmdPacket [0x06, b, v])) (setWidth_of_narrow hn) (byteOfBit_of_narrowBit hv)

theorem decodeInt_byte (src : BitVec 4) : decodeInt [src.setWidth 8] = .ok (.int src) :=
  congrArg (fun o => (orElse .operandRange o).map Instr.int) (narrow_four src)

theorem encode_of_decodeInt {ops : List Byte} {i : Instr} (h : decodeInt ops = .ok i) :
    encode i = some (cmdPacket (0x07 :: ops)) := by
  match ops, h with
  | [_], h =>
    obtain ⟨src, hsrc, rfl⟩ := orElse_map_eq_ok h
    exact congrArg (fun b => some (cmdPacket [0x07, b])) (setWidth_of_narrow hsrc)

theorem decodeTai_byte (v : Bool) : decodeTai [byteOfBit v] = .ok (.tai v) :=
  congrArg (fun o => (orElse .operandRange o).map Instr.tai) (narrowBit_byteOfBit v)

theorem encode_of_decodeTai {ops : List Byte} {i : Instr} (h : decodeTai ops = .ok i) :
    encode i = some (cmdPacket (0x08 :: ops)) := by
  match ops, h with
  | [_], h =>
    obtain ⟨v, hv, rfl⟩ := orElse_map_eq_ok h
    exact congrArg (fun b => some (cmdPacket [0x08, b])) (byteOfBit_of_narrowBit hv)

theorem encode_of_decodeDbin {ops : List Byte} {i : Instr} (h : decodeDbin ops = .ok i) :
    encode i = some (cmdPacket (0x09 :: ops)) := by
  match ops, h with
  | [_], h =>
    obtain rfl := Except.ok.inj h
    rfl

/-- A code that is no row of R111 is refused. -/
theorem decodeCmd_unlisted {code : Byte} (h : 0x0E < code.toNat) (ops : List Byte) :
    decodeCmd none (code :: ops) = .error .unknownCode := by
  have hne (k : Byte) (hk : k.toNat ≤ 0x0E) : ¬ code = k := by
    rintro rfl
    omega
  simp (disch := decide) only [decodeCmd, hne, if_false, Option.isSome_none, Bool.false_eq_true]

theorem cmdCode_cases (code : Byte) : code = 0x00 ∨ code = 0x01 ∨ code = 0x02 ∨ code = 0x03 ∨ code = 0x04 ∨
    code = 0x05 ∨ code = 0x06 ∨ code = 0x07 ∨ code = 0x08 ∨ code = 0x09 ∨ code = 0x0A ∨ code = 0x0B ∨ code = 0x0C ∨
    code = 0x0D ∨ code = 0x0E ∨ 0x0E < code.toNat := by
  revert code
  decide

/-- A dump is taken by RESTORE alone. -/
theorem dump_of_decodeCmd {d : Option Dump} {code : Byte} {ops : List Byte} {i : Instr}
    (h : decodeCmd d (code :: ops) = .ok i) (hcode : code ≠ 0x0E) : d = none := by
  cases d with
  | none => rfl
  | some d =>
    rw [decodeCmd, if_neg hcode] at h
    cases h

theorem encode_of_decodeCmd {d : Option Dump} {bytes : List Byte} {i : Instr} (h : decodeCmd d bytes = .ok i) :
    encode i = some ⟨.cmd, bytes, d⟩ := by
  match bytes, h with
  | code :: ops, h =>
    by_cases hrestore : code = 0x0E
    · subst code
      obtain ⟨rfl, rfl⟩ := bytes_of_bare h
      rfl
    obtain rfl := dump_of_decodeCmd h hrestore
    obtain rfl | rfl | rfl | rfl | rfl | rfl | rfl | rfl | rfl | rfl | rfl | rfl | rfl | rfl | hcode | hcode :=
      cmdCode_cases code
    · exact encode_of_decodeRun h
    · exact encode_of_decodeRdB h
    · exact encode_of_decodeRdW h
    · exact encode_of_decodeWrB h
    · exact encode_of_decodeWrW h
    · exact encode_of_decodeIack h
    · exact encode_of_decodeGpio h
    · exact encode_of_decodeInt h
    · exact encode_of_decodeTai h
    · exact encode_of_decodeDbin h
    -- DBOUT, RESET.C, RESET.W, SNAP
    iterate 4
      obtain ⟨rfl, rfl⟩ := bytes_of_bare h
      rfl
    · exact absurd hcode hrestore
    · rw [decodeCmd_unlisted hcode] at h
      cases h

/-! ### The operands of the calls -/

theorem natOf4_eq_zero {b3 b2 b1 b0 : Byte} (h : natOf4 b3 b2 b1 b0 = 0) : [b3, b2, b1, b0] = [0, 0, 0, 0] := by
  rw [← bytesOf4_natOf4, h]
  rfl

theorem decodeSchedule_bytes (id : SlotId) (t : Nat) (h : fitsFourBytes t = true) :
    decodeSchedule (slotCode id :: 0 :: bytesOf4 t) = .ok (.schedule id (some t)) := by
  cases id <;> exact congrArg (fun t => Except.ok (Instr.schedule _ (some t))) (natOf4_bytes t h)

theorem decodeSchedule_never (id : SlotId) :
    decodeSchedule [slotCode id, 1, 0, 0, 0, 0] = .ok (.schedule id none) := by
  cases id <;> rfl

theorem encode_schedule (id : SlotId) (t : Nat) :
    encode (.schedule id (some t)) = some (callPacket (0x10 :: slotCode id :: 0 :: bytesOf4 t)) := rfl

theorem encode_schedule_never (id : SlotId) :
    encode (.schedule id none) = some (callPacket [0x10, slotCode id, 1, 0, 0, 0, 0]) := rfl

theorem encode_of_decodeSchedule {ops : List Byte} {i : Instr} (h : decodeSchedule ops = .ok i) :
    encode i = some (callPacket (0x10 :: ops)) := by
  unfold decodeSchedule at h
  split at h
  next =>
    split at h
    next => cases h
    next hslot =>
      split_ifs at h with htag hnever <;> cases h
      · rw [encode_schedule, slotCode_of_slotOfCode hslot, bytesOf4_natOf4, htag]
      · obtain ⟨rfl, hzero⟩ := hnever
        rw [encode_schedule_never, slotCode_of_slotOfCode hslot, natOf4_eq_zero hzero]
  next => cases h

theorem decodeRequestBus_blit (c : Nat) (h : fitsFourBytes c = true) :
    decodeRequestBus (0 :: bytesOf4 c) = .ok (.requestBus .blit c) :=
  congrArg (fun c => Except.ok (Instr.requestBus .blit c)) (natOf4_bytes c h)

theorem decodeRequestBus_dma (c : Nat) (h : fitsFourBytes c = true) :
    decodeRequestBus (1 :: bytesOf4 c) = .ok (.requestBus .dma c) :=
  congrArg (fun c => Except.ok (Instr.requestBus .dma c)) (natOf4_bytes c h)

theorem encode_of_decodeRequestBus {ops : List Byte} {i : Instr} (h : decodeRequestBus ops = .ok i) :
    encode i = some (callPacket (0x12 :: ops)) := by
  unfold decodeRequestBus at h
  split at h
  next =>
    split_ifs at h with hblit hdma <;> cases h
    · rw [hblit]
      exact congrArg (fun c => some (callPacket (0x12 :: 0 :: c))) (bytesOf4_natOf4 _ _ _ _)
    · rw [hdma]
      exact congrArg (fun c => some (callPacket (0x12 :: 1 :: c))) (bytesOf4_natOf4 _ _ _ _)
  next => cases h

theorem decodeIdle_bytes (c : Nat) (h : fitsFourBytes c = true) : decodeIdle (bytesOf4 c) = .ok (.idle c) :=
  congrArg (fun c => Except.ok (Instr.idle c)) (natOf4_bytes c h)

theorem encode_of_decodeIdle {ops : List Byte} {i : Instr} (h : decodeIdle ops = .ok i) :
    encode i = some (callPacket (0x13 :: ops)) := by
  match ops, h with
  | [_, _, _, _], h =>
    obtain rfl := Except.ok.inj h
    exact congrArg (fun ops => some (callPacket (0x13 :: ops))) (bytesOf4_natOf4 _ _ _ _)

theorem decodeSetGpioBit_bytes (n : BitVec 3) (v : Bool) :
    decodeSetGpioBit [n.setWidth 8, byteOfBit v] = .ok (.setGpioBit n v) := by
  revert n v
  decide

theorem encode_of_decodeSetGpioBit {ops : List Byte} {i : Instr} (h : decodeSetGpioBit ops = .ok i) :
    encode i = some (callPacket (0x14 :: ops)) := by
  match ops, h with
  | [b, c], h =>
    delta decodeSetGpioBit at h
    dsimp only at h
    generalize hn : narrow 3 b = line, hv : narrowBit c = level at h
    match line, level, h with
    | some n, some v, h =>
      obtain rfl := Except.ok.inj h
      exact congrArg₂ (fun b v => some (callPacket [0x14, b, v])) (setWidth_of_narrow hn) (byteOfBit_of_narrowBit hv)

theorem decodePushSample_bytes (w : Word) : decodePushSample [hiByte w, loByte w] = .ok (.pushSample w) :=
  congrArg (fun w => Except.ok (Instr.pushSample w)) (mkWord_bytes w)

theorem encode_of_decodePushSample {ops : List Byte} {i : Instr} (h : decodePushSample ops = .ok i) :
    encode i = some (callPacket (0x15 :: ops)) := by
  match ops, h with
  | [_, _], h =>
    obtain rfl := Except.ok.inj h
    exact congrArg₂ (fun h l => some (callPacket [0x15, h, l])) (hiByte_mkWord _ _) (loByte_mkWord _ _)

/-- A code that is no row of R112 is refused. -/
theorem decodeCall_unlisted {code : Byte} (h : code.toNat < 0x10 ∨ 0x15 < code.toNat) (ops : List Byte) :
    decodeCall (code :: ops) = .error .unknownCode := by
  have hne (k : Byte) (hk : 0x10 ≤ k.toNat ∧ k.toNat ≤ 0x15) : ¬ code = k := by
    rintro rfl
    omega
  simp (disch := decide) only [decodeCall, hne, if_false]

theorem callCode_cases (code : Byte) : code = 0x10 ∨ code = 0x11 ∨ code = 0x12 ∨ code = 0x13 ∨ code = 0x14 ∨
    code = 0x15 ∨ (code.toNat < 0x10 ∨ 0x15 < code.toNat) := by
  revert code
  decide

theorem encode_of_decodeCall {bytes : List Byte} {i : Instr} (h : decodeCall bytes = .ok i) :
    encode i = some (callPacket bytes) := by
  match bytes, h with
  | code :: ops, h =>
    obtain rfl | rfl | rfl | rfl | rfl | rfl | hcode := callCode_cases code
    · exact encode_of_decodeSchedule h
    · obtain ⟨rfl, rfl⟩ := bytes_of_bare h
      rfl
    · exact encode_of_decodeRequestBus h
    · exact encode_of_decodeIdle h
    · exact encode_of_decodeSetGpioBit h
    · exact encode_of_decodePushSample h
    · rw [decodeCall_unlisted hcode] at h
      cases h

/-! ### The field codes -/

/-- Where each row of a format is encoded as its position in the table, a code that selects a row is the row's
encoding. -/
theorem encode_of_decodeCode {f : Format} {rows : List Instr}
    (hrows : ∀ k, (hk : k < rows.length) → encode rows[k] = some ⟨f, [BitVec.ofNat 8 k], none⟩)
    {bytes : List Byte} {i : Instr} (h : decodeCode rows bytes = .ok i) : encode i = some ⟨f, bytes, none⟩ := by
  match bytes, h with
  | [code], h =>
    obtain ⟨hk, rfl⟩ := List.getElem?_eq_some_iff.mp (orElse_eq_ok h)
    rw [hrows _ hk, BitVec.ofNat_toNat, BitVec.setWidth_eq]

theorem encode_tmodeABRows (k : Nat) (hk : k < tmodeABRows.length) (t : TimerAB) :
    encode (tmodeABRows[k] t) = some ⟨.tmodeAB, [BitVec.ofNat 8 k, timerABCode t], none⟩ := by
  cases t <;> revert k <;> decide

theorem encode_tmodeCDRows (k : Nat) (hk : k < tmodeCDRows.length) (t : TimerCD) :
    encode (tmodeCDRows[k] t) = some ⟨.tmodeCD, [BitVec.ofNat 8 k, timerCDCode t], none⟩ := by
  cases t <;> revert k <;> decide

theorem rows_of_decodeTmodeAB {code b : Byte} {i : Instr} (h : decodeTmodeAB [code, b] = .ok i) :
    ∃ f t, tmodeABRows[code.toNat]? = some f ∧ timerABOfCode b = some t ∧ f t = i := by
  delta decodeTmodeAB at h
  dsimp only at h
  generalize tmodeABRows[code.toNat]? = row, timerABOfCode b = timer at h ⊢
  match row, timer, h with
  | some f, some t, h => exact ⟨f, t, rfl, rfl, Except.ok.inj h⟩

theorem encode_of_decodeTmodeAB {bytes : List Byte} {i : Instr} (h : decodeTmodeAB bytes = .ok i) :
    encode i = some ⟨.tmodeAB, bytes, none⟩ := by
  match bytes, h with
  | [code, b], h =>
    obtain ⟨f, t, hrow, ht, rfl⟩ := rows_of_decodeTmodeAB h
    obtain ⟨hk, rfl⟩ := List.getElem?_eq_some_iff.mp hrow
    rw [encode_tmodeABRows _ hk, BitVec.ofNat_toNat, BitVec.setWidth_eq, timerABCode_of_timerABOfCode ht]

theorem rows_of_decodeTmodeCD {code b : Byte} {i : Instr} (h : decodeTmodeCD [code, b] = .ok i) :
    ∃ f t, tmodeCDRows[code.toNat]? = some f ∧ timerCDOfCode b = some t ∧ f t = i := by
  delta decodeTmodeCD at h
  dsimp only at h
  generalize tmodeCDRows[code.toNat]? = row, timerCDOfCode b = timer at h ⊢
  match row, timer, h with
  | some f, some t, h => exact ⟨f, t, rfl, rfl, Except.ok.inj h⟩

theorem encode_of_decodeTmodeCD {bytes : List Byte} {i : Instr} (h : decodeTmodeCD bytes = .ok i) :
    encode i = some ⟨.tmodeCD, bytes, none⟩ := by
  match bytes, h with
  | [code, b], h =>
    obtain ⟨f, t, hrow, ht, rfl⟩ := rows_of_decodeTmodeCD h
    obtain ⟨hk, rfl⟩ := List.getElem?_eq_some_iff.mp hrow
    rw [encode_tmodeCDRows _ hk, BitVec.ofNat_toNat, BitVec.setWidth_eq, timerCDCode_of_timerCDOfCode ht]

/-! ### The commands and calls the encoder writes -/

/-- A command or a call with operands its bytes can hold decodes to itself. -/
theorem decode_commandOrCall {i : Instr} {p : Packet} (hi : isCommandOrCall i = true) (hwf : i.wf = true)
    (h : encode i = some p) : decode p = .ok i := by
  cases i
  case fire | grantDma | grantBlit | blitPhase | dmaWord => cases h
  case requestBus u c =>
    cases u <;> obtain rfl := Option.some.inj h
    · exact decodeRequestBus_blit c hwf
    · exact decodeRequestBus_dma c hwf
  case schedule id t =>
    cases t <;> obtain rfl := Option.some.inj h
    · exact decodeSchedule_never id
    · exact decodeSchedule_bytes id _ hwf
  all_goals obtain rfl := Option.some.inj h
  case dbout | resetC | resetW | snap | restore | advance | dbin => rfl
  case run n => exact decodeRun_bytes n ((Bool.and_eq_true _ _).mp hwf).2
  case rdB a => exact decodeRdB_bytes a hwf
  case rdW a => exact decodeRdW_bytes a ((Bool.and_eq_true _ _).mp hwf).1
  case wrB a v => exact decodeWrB_bytes a v hwf
  case wrW a v => exact decodeWrW_bytes a v ((Bool.and_eq_true _ _).mp hwf).1
  case iack l => exact decodeIack_byte l
  case gpio n v => exact decodeGpio_bytes n v
  case int src => exact decodeInt_byte src
  case tai v => exact decodeTai_byte v
  case idle c => exact decodeIdle_bytes c hwf
  case setGpioBit n v => exact decodeSetGpioBit_bytes n v
  case pushSample w => exact decodePushSample_bytes w
  -- the rows
  all_goals cases hi

end Sys2Proof.Machine
end

section
/-! The register rows (30_encoding.md R113, R114): the accesses of a REG packet, the addresses a row matches, and the
register of a bank that each row stands for. -/

namespace Sys2Proof.Machine

/-! ### The accesses of a REG packet -/

/-- What a REG packet's kind and value bytes make of a bank's offset: kind 0 RD.B, 1 RD.W, 2 WR.B, 3 WR.W (entry 8). -/
def accessOfKind (s : State) (b : Bank) (o : Nat) (kind v1 v0 : Byte) : State :=
  if kind = 0 then bankRead s b o .byte
  else if kind = 1 then bankRead s b o .word
  else if kind = 2 then bankWrite s b o .byte (byteToWord v0)
  else bankWrite s b o .word (mkWord v1 v0)

theorem access16_cases {odd : Bool} {kind v1 v0 : Byte} {acc : Acc16} (h : access16 odd kind v1 v0 = some acc) :
    (kind = 0 ∧ v1 = 0 ∧ v0 = 0 ∧ acc = .rd (if odd then .lo else .hi)) ∨
    (kind = 1 ∧ v1 = 0 ∧ v0 = 0 ∧ odd = false ∧ acc = .rd .both) ∨
    (kind = 2 ∧ v1 = 0 ∧ acc = .wr (if odd then .lo v0 else .hi v0)) ∨
    (kind = 3 ∧ odd = false ∧ acc = .wr (.both (mkWord v1 v0))) := by
  unfold access16 at h
  split at h
  next hc =>
    obtain ⟨hkind, hv1, hv0⟩ := hc
    exact .inl ⟨hkind, hv1, hv0, (Option.some.inj h).symm⟩
  split at h
  next hc =>
    obtain ⟨hkind, hv1, hv0, hodd⟩ := hc
    exact .inr (.inl ⟨hkind, hv1, hv0, hodd, (Option.some.inj h).symm⟩)
  split at h
  next hc => exact .inr (.inr (.inl ⟨hc.1, hc.2, (Option.some.inj h).symm⟩))
  split at h
  next hc => exact .inr (.inr (.inr ⟨hc.1, hc.2, (Option.some.inj h).symm⟩))
  cases h

/-- A word access of a two-byte row has an even address. -/
theorem even_of_word_access {odd : Bool} {kind v1 v0 : Byte} {acc : Acc16} (h : access16 odd kind v1 v0 = some acc)
    (hkind : kind = 1 ∨ kind = 3) : odd = false := by
  obtain ⟨rfl, -⟩ | ⟨-, -, -, hodd, -⟩ | ⟨rfl, -⟩ | ⟨-, hodd, -⟩ := access16_cases h
  · exact absurd hkind (by decide)
  · exact hodd
  · exact absurd hkind (by decide)
  · exact hodd

theorem access8_cases {kind v1 v0 : Byte} {acc : Acc8} (h : access8 kind v1 v0 = some acc) :
    (kind = 0 ∧ v1 = 0 ∧ v0 = 0 ∧ acc = .rd) ∨ (kind = 2 ∧ v1 = 0 ∧ acc = .wr v0) := by
  unfold access8 at h
  split_ifs at h with hread hwrite <;> cases h
  · obtain ⟨hkind, hv1, hv0⟩ := hread
    exact .inl ⟨hkind, hv1, hv0, rfl⟩
  · obtain ⟨hkind, hv1⟩ := hwrite
    exact .inr ⟨hkind, hv1, rfl⟩

/-- A one-byte row has no word access. -/
theorem byte_of_access8 {kind v1 v0 : Byte} {acc : Acc8} (h : access8 kind v1 v0 = some acc) :
    ¬ (kind = 1 ∨ kind = 3) := by
  obtain ⟨rfl, -⟩ | ⟨rfl, -⟩ := access8_cases h <;> decide

theorem access16At_of_access16 {odd : Bool} {kind v1 v0 : Byte} {acc : Acc16}
    (h : access16 odd kind v1 v0 = some acc) (s : State) (b : Bank) (o : Nat) :
    access16At s b o acc = accessOfKind s b (o + odd.toNat) kind v1 v0 := by
  obtain ⟨rfl, rfl, rfl, rfl⟩ | ⟨rfl, rfl, rfl, rfl, rfl⟩ | ⟨rfl, rfl, rfl⟩ | ⟨rfl, rfl, rfl⟩ := access16_cases h
  · cases odd <;> rfl
  · rfl
  · cases odd <;> rfl
  · rfl

theorem access8At_of_access8 {kind v1 v0 : Byte} {acc : Acc8} (h : access8 kind v1 v0 = some acc) (s : State) (b : Bank)
    (o : Nat) : access8At s b o acc = accessOfKind s b o kind v1 v0 := by
  obtain ⟨rfl, rfl, rfl, rfl⟩ | ⟨rfl, rfl, rfl⟩ := access8_cases h <;> rfl

/-- The packet the encoder writes for an access read from a packet is that packet. -/
theorem encodeReg16_of_access16 {odd : Bool} {kind v1 v0 : Byte} {acc : Acc16}
    (h : access16 odd kind v1 v0 = some acc) (a : Nat) (second : Byte) : encodeReg16 a second acc =
      ⟨.reg, bytesOfAddr (BitVec.ofNat 32 (a + odd.toNat)) ++ [kind + second, v1, v0], none⟩ := by
  obtain ⟨rfl, rfl, rfl, rfl⟩ | ⟨rfl, rfl, rfl, rfl, rfl⟩ | ⟨rfl, rfl, rfl⟩ | ⟨rfl, rfl, rfl⟩ := access16_cases h
  · cases odd <;> simp [encodeReg16]
  · simp [encodeReg16]
  · cases odd <;> simp [encodeReg16]
  · simp [encodeReg16]

theorem encodeReg8_of_access8 {kind v1 v0 : Byte} {acc : Acc8} (h : access8 kind v1 v0 = some acc) (a : Nat) :
    encodeReg8 a acc = ⟨.reg, bytesOfAddr (BitVec.ofNat 32 a) ++ [kind, v1, v0], none⟩ := by
  obtain ⟨rfl, rfl, rfl, rfl⟩ | ⟨rfl, rfl, rfl⟩ := access8_cases h <;> rfl

/-- Every access of a two-byte row is read from the bytes of some packet of the kinds 0 to 3. -/
theorem exists_access16 (acc : Acc16) : ∃ odd kind v1 v0, kind.toNat < 4 ∧ access16 odd kind v1 v0 = some acc := by
  match acc with
  | .rd .hi => exact ⟨false, 0, 0, 0, by decide, rfl⟩
  | .rd .lo => exact ⟨true, 0, 0, 0, by decide, rfl⟩
  | .rd .both => exact ⟨false, 1, 0, 0, by decide, rfl⟩
  | .wr (.hi v) => exact ⟨false, 2, 0, v, by decide, rfl⟩
  | .wr (.lo v) => exact ⟨true, 2, 0, v, by decide, rfl⟩
  | .wr (.both w) => exact ⟨false, 3, hiByte w, loByte w, by decide,
      congrArg (fun w => some (Acc16.wr (.both w))) (mkWord_bytes w)⟩

theorem exists_access8 (acc : Acc8) : ∃ kind v1 v0, kind.toNat < 4 ∧ access8 kind v1 v0 = some acc := by
  match acc with
  | .rd => exact ⟨0, 0, 0, by decide, rfl⟩
  | .wr v => exact ⟨2, 0, v, by decide, rfl⟩

/-! ### Addresses of rows -/

/-- The distance of entry `n` of a row from its first: rows of 16 entries leave address bits 4:1 free (R113). -/
def rowStep (r : RegRow16) (n : BitVec 4) : Nat := if r.mask = 0xFFFFE0 then 2 * n.toNat else 0

/-- The even address of entry `n` of a two-byte row. -/
def rowAddr (r : RegRow16) (n : BitVec 4) : Nat := r.value.toNat + rowStep r n

/-- The address of a byte of entry `n` of two-byte row `k` finds that row, its bit 0 names the byte, and its bits 4:1
are those of the entry's even address. -/
theorem row16_matches : ∀ (k : Fin 17) (n : BitVec 4) (odd : Bool),
    let a := BitVec.ofNat 32 (rowAddr regRows16[k] n + odd.toNat)
    regRows16.findIdx (fun r => a &&& r.mask == r.value) = k ∧ a.getLsbD 0 = odd ∧ fitsThreeBytes a = true ∧
      a.extractLsb' 1 4 = (BitVec.ofNat 32 (rowAddr regRows16[k] n)).extractLsb' 1 4 := by
  decide

/-- The address of one-byte row `k` finds no two-byte row (17 is their number), and of the one-byte rows it
finds `k`. -/
theorem row8_matches : ∀ k : Fin 31,
    regRows16.findIdx (fun r => (regRows8[k]).value &&& r.mask == r.value) = 17 ∧
      regRows8.findIdx (fun r => (regRows8[k]).value == r.value) = k ∧ fitsThreeBytes (regRows8[k]).value = true := by
  decide

/-- A mask of the bits 23 to `j` clears the bits below `j` of a 24-bit number. -/
theorem and_highMask {x j : Nat} (hx : x < 2 ^ 24) (hj : j ≤ 24) :
    x &&& ((2 ^ (24 - j) - 1) * 2 ^ j) = x / 2 ^ j * 2 ^ j := by
  have hlow : (x &&& ((2 ^ (24 - j) - 1) * 2 ^ j)) % 2 ^ j = 0 := by
    rw [Nat.and_mod_two_pow, Nat.mul_mod_left, Nat.and_zero]
  have hhigh : (x &&& ((2 ^ (24 - j) - 1) * 2 ^ j)) / 2 ^ j = x / 2 ^ j := by
    have hlt : x / 2 ^ j < 2 ^ (24 - j) :=
      Nat.div_lt_of_lt_mul (by rwa [← Nat.pow_add, Nat.add_sub_cancel' hj])
    rw [Nat.and_div_two_pow, Nat.mul_div_cancel _ (Nat.two_pow_pos j), Nat.and_two_pow_sub_one_eq_mod,
      Nat.mod_eq_of_lt hlt]
  rw [← hhigh, Nat.div_mul_cancel (Nat.dvd_of_mod_eq_zero hlow)]

theorem regRows16_masks : ∀ r ∈ regRows16, r.mask = 0xFFFFE0 ∨ r.mask = 0xFFFFFE := by
  simp only [regRows16, List.forall_mem_cons, List.not_mem_nil, false_imp_iff, implies_true, and_true]
  decide

/-- An address that matches a two-byte row is the even address of the entry its bits 4:1 name, or the next one. -/
theorem addr_of_row16 {r : RegRow16} (hr : r ∈ regRows16) {a : Addr} (ha : fitsThreeBytes a = true)
    (hm : a &&& r.mask = r.value) :
    a = BitVec.ofNat 32 (rowAddr r (a.extractLsb' 1 4) + (a.getLsbD 0).toNat) := by
  have hlt : a.toNat < 2 ^ 24 := of_decide_eq_true ha
  have hbit : (a.getLsbD 0).toNat = a.toNat % 2 := by
    rw [BitVec.getLsbD, Nat.testBit_zero]
    obtain h | h := Nat.mod_two_eq_zero_or_one a.toNat <;> rw [h] <;> rfl
  have hindex : (a.extractLsb' 1 4).toNat = a.toNat / 2 % 16 := by
    rw [BitVec.extractLsb'_toNat, Nat.shiftRight_eq_div_pow]
  have hvalue := congrArg BitVec.toNat hm
  rw [BitVec.toNat_and] at hvalue
  suffices h : rowAddr r (a.extractLsb' 1 4) + (a.getLsbD 0).toNat = a.toNat by
    rw [h, BitVec.ofNat_toNat, BitVec.setWidth_eq]
  rw [rowAddr, rowStep, hbit, hindex, ← hvalue]
  obtain hmask | hmask := regRows16_masks r hr <;> rw [hmask]
  · have h5 : a.toNat &&& (0xFFFFE0 : Addr).toNat = a.toNat / 32 * 32 := and_highMask (j := 5) hlt (by decide)
    rw [h5, if_pos rfl]
    omega
  · have h1 : a.toNat &&& (0xFFFFFE : Addr).toNat = a.toNat / 2 * 2 := and_highMask (j := 1) hlt (by decide)
    rw [h1, if_neg (by decide)]
    omega

/-! ### The register a row stands for -/

/-- A two-byte row is the register at offset `o` of a bank: its entries lie in the bank, their bytes belong to a
register, an access of the row is one of the bank, and the row is encoded at its address. -/
structure Row16At (r : RegRow16) (b : Bank) (o : Nat) : Prop where
  value_eq : r.value.toNat = bankBase Config.default b + o
  register : ∀ (n : BitVec 4) (odd : Bool),
    o + rowStep r n + odd.toNat < bankSize b ∧ (regAt b (o + rowStep r n + odd.toNat)).isSome = true
  exec_eq : ∀ n acc s, exec (r.instr n acc) s = .next (access16At s b (o + rowStep r n) acc)
  encode_eq : ∀ n acc, encode (r.instr n acc) = some (encodeReg16 (rowAddr r n) 0 acc)

/-- A one-byte row is the register at offset `o` of a bank. -/
structure Row8At (r : RegRow8) (b : Bank) (o : Nat) : Prop where
  value_eq : r.value.toNat = bankBase Config.default b + o
  register : o < bankSize b ∧ (regAt b o).isSome = true
  exec_eq : ∀ acc s, exec (r.instr acc) s = .next (access8At s b o acc)
  encode_eq : ∀ acc, encode (r.instr acc) = some (encodeReg8 r.value.toNat acc)

/-- Every two-byte row is a register of a bank (R114). -/
theorem regRows16_at : ∀ r ∈ regRows16, ∃ b o, Row16At r b o := by
  simp only [regRows16, List.forall_mem_cons, List.not_mem_nil, false_imp_iff, implies_true, and_true]
  refine ⟨⟨.blit, 0x00, ?_⟩, ⟨.blit, 0x20, ?_⟩, ⟨.blit, 0x22, ?_⟩, ⟨.blit, 0x24, ?_⟩, ⟨.blit, 0x26, ?_⟩,
    ⟨.blit, 0x28, ?_⟩, ⟨.blit, 0x2A, ?_⟩, ⟨.blit, 0x2C, ?_⟩, ⟨.blit, 0x2E, ?_⟩, ⟨.blit, 0x30, ?_⟩, ⟨.blit, 0x32, ?_⟩,
    ⟨.blit, 0x34, ?_⟩, ⟨.blit, 0x36, ?_⟩, ⟨.blit, 0x38, ?_⟩, ⟨.dma, 0x04, ?_⟩, ⟨.dma, 0x06, ?_⟩, ⟨.vid, 0x40, ?_⟩⟩
  -- the halftone table, at offset 0
  case refine_1 =>
    refine ⟨rfl, by decide, fun n acc s => ?_, fun n acc => rfl⟩
    rw [Nat.zero_add]
    rfl
  -- MODE and STATUS, and the palette: the access tells the two constructors apart
  case refine_16 | refine_17 =>
    exact ⟨rfl, by decide, fun n acc s => by cases acc <;> rfl, fun n acc => by cases acc <;> rfl⟩
  all_goals exact ⟨rfl, by decide, fun n acc s => rfl, fun n acc => rfl⟩

/-- Every one-byte row is a register of a bank (R114). -/
theorem regRows8_at : ∀ r ∈ regRows8, ∃ b o, Row8At r b o := by
  simp only [regRows8, List.forall_mem_cons, List.not_mem_nil, false_imp_iff, implies_true, and_true]
  refine ⟨⟨.blit, 0x3A, ?_⟩, ⟨.blit, 0x3B, ?_⟩, ⟨.blit, 0x3C, ?_⟩, ⟨.blit, 0x3D, ?_⟩, ⟨.mfp, 0x01, ?_⟩,
    ⟨.mfp, 0x03, ?_⟩, ⟨.mfp, 0x05, ?_⟩, ⟨.mfp, 0x07, ?_⟩, ⟨.mfp, 0x09, ?_⟩, ⟨.mfp, 0x0B, ?_⟩, ⟨.mfp, 0x0D, ?_⟩,
    ⟨.mfp, 0x0F, ?_⟩, ⟨.mfp, 0x11, ?_⟩, ⟨.mfp, 0x13, ?_⟩, ⟨.mfp, 0x15, ?_⟩, ⟨.mfp, 0x17, ?_⟩, ⟨.mfp, 0x19, ?_⟩,
    ⟨.mfp, 0x1B, ?_⟩, ⟨.mfp, 0x1D, ?_⟩, ⟨.mfp, 0x1F, ?_⟩, ⟨.mfp, 0x21, ?_⟩, ⟨.mfp, 0x23, ?_⟩, ⟨.mfp, 0x25, ?_⟩,
    ⟨.dma, 0x09, ?_⟩, ⟨.dma, 0x0B, ?_⟩, ⟨.dma, 0x0D, ?_⟩, ⟨.vid, 0x0A, ?_⟩, ⟨.vid, 0x60, ?_⟩, ⟨.vid, 0x65, ?_⟩,
    ⟨.snd, 0x01, ?_⟩, ⟨.snd, 0x21, ?_⟩⟩
  -- CTRL and SHIFT_MODE: the access tells the two constructors apart
  case refine_3 | refine_28 =>
    exact ⟨rfl, by decide, fun acc s => by cases acc <;> rfl, fun acc => by cases acc <;> rfl⟩
  all_goals exact ⟨rfl, by decide, fun acc s => rfl, fun acc => rfl⟩

/-- The bytes of a bank's registers, as R114 gives them, at the default bank addresses. -/
def RegisterAddr (a : Addr) (b : Bank) (o : Nat) : Prop :=
  o < bankSize b ∧ (regAt b o).isSome = true ∧ a = addrAt (bankBase Config.default b) o

theorem Row16At.registerAddr {r : RegRow16} {b : Bank} {o : Nat} (h : Row16At r b o) (hr : r ∈ regRows16) {a : Addr}
    (ha : fitsThreeBytes a = true) (hm : a &&& r.mask = r.value) :
    RegisterAddr a b (o + rowStep r (a.extractLsb' 1 4) + (a.getLsbD 0).toNat) := by
  obtain ⟨hsize, hreg⟩ := h.register (a.extractLsb' 1 4) (a.getLsbD 0)
  refine ⟨hsize, hreg, (addr_of_row16 hr ha hm).trans ?_⟩
  rw [addrAt, rowAddr, h.value_eq, Nat.add_assoc, Nat.add_assoc, Nat.add_assoc]

theorem Row8At.registerAddr {r : RegRow8} {b : Bank} {o : Nat} (h : Row8At r b o) : RegisterAddr r.value b o :=
  ⟨h.register.1, h.register.2, by rw [addrAt, ← h.value_eq, BitVec.ofNat_toNat, BitVec.setWidth_eq]⟩

/-! ### What a REG packet of the kinds 0 to 3 decodes to -/

/-- The two-byte row an address matches (R113). -/
def row16Of (a : Addr) : Option RegRow16 := regRows16.find? (fun r => a &&& r.mask == r.value)

/-- The one-byte row an address matches. -/
def row8Of (a : Addr) : Option RegRow8 := regRows8.find? (fun r => a == r.value)

theorem mem_of_row16Of {a : Addr} {r : RegRow16} (h : row16Of a = some r) : r ∈ regRows16 ∧ a &&& r.mask = r.value :=
  ⟨List.mem_of_find?_eq_some h, by simpa using List.find?_some h⟩

theorem mem_of_row8Of {a : Addr} {r : RegRow8} (h : row8Of a = some r) : r ∈ regRows8 ∧ a = r.value :=
  ⟨List.mem_of_find?_eq_some h, by simpa using List.find?_some h⟩

theorem decodeRegAt_row16 {a : Addr} {kind v1 v0 : Byte} {r : RegRow16} (hk : kind.toNat < 4)
    (hr : row16Of a = some r) :
    decodeRegAt a kind v1 v0 =
      (orElse .operandRange (access16 (a.getLsbD 0) kind v1 v0)).map (r.instr (a.extractLsb' 1 4)) := by
  unfold row16Of at hr
  simp only [decodeRegAt, Nat.not_le.mpr hk, if_false, hr]

theorem decodeRegAt_row8 {a : Addr} {kind v1 v0 : Byte} {r : RegRow8} (hk : kind.toNat < 4)
    (hnone : row16Of a = none) (hr : row8Of a = some r) :
    decodeRegAt a kind v1 v0 = (orElse .operandRange (access8 kind v1 v0)).map r.instr := by
  unfold row16Of at hnone
  unfold row8Of at hr
  simp only [decodeRegAt, Nat.not_le.mpr hk, if_false, hnone, hr]

theorem decodeRegAt_none {a : Addr} {kind v1 v0 : Byte} (hk : kind.toNat < 4) (hnone : row16Of a = none)
    (hnone8 : row8Of a = none) : decodeRegAt a kind v1 v0 = .error .noRegister := by
  unfold row16Of at hnone
  unfold row8Of at hnone8
  simp only [decodeRegAt, Nat.not_le.mpr hk, if_false, hnone, hnone8]

/-- What an instruction read from a REG packet is: an access of that kind to a register of a bank, encoded as that
packet. -/
structure RegisterAccess (a : Addr) (kind v1 v0 : Byte) (i : Instr) (b : Bank) (o : Nat) : Prop where
  register : RegisterAddr a b o
  even : kind = 1 ∨ kind = 3 → a.getLsbD 0 = false
  exec_eq : ∀ s, exec i s = .next (accessOfKind s b o kind v1 v0)
  encode_eq : encode i = some ⟨.reg, bytesOfAddr a ++ [kind, v1, v0], none⟩

/-- An address matches a two-byte row, or no such row and a one-byte row, or no row; in the first two cases it is the
address of a register's byte. -/
theorem row_cases {a : Addr} (ha : fitsThreeBytes a = true) :
    (∃ r b o, row16Of a = some r ∧ Row16At r b o ∧
      a = BitVec.ofNat 32 (rowAddr r (a.extractLsb' 1 4) + (a.getLsbD 0).toNat) ∧
      RegisterAddr a b (o + rowStep r (a.extractLsb' 1 4) + (a.getLsbD 0).toNat)) ∨
    (∃ r b o, row16Of a = none ∧ row8Of a = some r ∧ Row8At r b o ∧ a = r.value ∧ RegisterAddr a b o) ∨
    (row16Of a = none ∧ row8Of a = none) := by
  cases h16 : row16Of a with
  | some r =>
    obtain ⟨hr, hm⟩ := mem_of_row16Of h16
    obtain ⟨b, o, hat⟩ := regRows16_at r hr
    exact .inl ⟨r, b, o, rfl, hat, addr_of_row16 hr ha hm, hat.registerAddr hr ha hm⟩
  | none =>
    cases h8 : row8Of a with
    | some r =>
      obtain ⟨hr, rfl⟩ := mem_of_row8Of h8
      obtain ⟨b, o, hat⟩ := regRows8_at r hr
      exact .inr (.inl ⟨r, b, o, rfl, rfl, hat, rfl, hat.registerAddr⟩)
    | none => exact .inr (.inr ⟨rfl, rfl⟩)

/-- What a REG packet of the kinds 0 to 3 decodes to is an access to a register of a bank. -/
theorem registerAccess_of_decodeRegAt {a : Addr} {kind v1 v0 : Byte} {i : Instr} (ha : fitsThreeBytes a = true)
    (hk : kind.toNat < 4) (h : decodeRegAt a kind v1 v0 = .ok i) : ∃ b o, RegisterAccess a kind v1 v0 i b o := by
  obtain ⟨r, b, o, hr, hat, haddr, hreg⟩ | ⟨r, b, o, hnone, hr, hat, rfl, hreg⟩ | ⟨hnone, hnone8⟩ := row_cases ha
  · rw [decodeRegAt_row16 hk hr] at h
    obtain ⟨acc, hacc, rfl⟩ := orElse_map_eq_ok h
    refine ⟨b, _, hreg, even_of_word_access hacc, fun s => ?_, ?_⟩
    · rw [hat.exec_eq, access16At_of_access16 hacc]
    · rw [hat.encode_eq, encodeReg16_of_access16 hacc, ← haddr, add_zero]
  · rw [decodeRegAt_row8 hk hnone hr] at h
    obtain ⟨acc, hacc, rfl⟩ := orElse_map_eq_ok h
    refine ⟨b, o, hreg, fun hword => absurd hword (byte_of_access8 hacc), fun s => ?_, ?_⟩
    · rw [hat.exec_eq, access8At_of_access8 hacc]
    · rw [hat.encode_eq, encodeReg8_of_access8 hacc, BitVec.ofNat_toNat, BitVec.setWidth_eq]
  · rw [decodeRegAt_none hk hnone hnone8] at h
    cases h

end Sys2Proof.Machine
end

section
/-! The decoder and the encoder are inverse to each other (30_encoding.md R110 to R130), and what has no row is refused
(R129). -/

namespace Sys2Proof.Machine

theorem decode_reg {a : Addr} (ha : fitsThreeBytes a = true) (kind v1 v0 : Byte) :
    decode ⟨.reg, bytesOfAddr a ++ [kind, v1, v0], none⟩ = decodeRegAt a kind v1 v0 := by
  show decodeRegAt (mkAddr (addrHi a) (addrMid a) (addrLo a)) kind v1 v0 = _
  rw [mkAddr_bytes a ha]

/-- The kinds 4 to 7 name the row DATA.controller, with the access of kind - 4 (entry 8). -/
theorem decodeRegAt_controller {kind : Byte} (hk : 4 ≤ kind.toNat) (a : Addr) (v1 v0 : Byte) :
    decodeRegAt a kind v1 v0 =
      if a &&& 0xFFFFFE = 0xFF8604 then
        (orElse .operandRange (access16 (a.getLsbD 0) (kind - 4) v1 v0)).map .regDmaDataController
      else .error .operandRange := by
  unfold decodeRegAt
  rw [if_pos hk]

/-- The row DATA.count, whose address DATA.controller shares. -/
theorem dataRow_mem : ⟨0xFF8604, 0xFFFFFE, fun _ acc => .regDmaDataCount acc⟩ ∈ regRows16 :=
  List.mem_of_getElem? (i := 14) rfl

theorem encode_of_decodeRegAt {a : Addr} {kind v1 v0 : Byte} {i : Instr} (ha : fitsThreeBytes a = true)
    (h : decodeRegAt a kind v1 v0 = .ok i) : encode i = some ⟨.reg, bytesOfAddr a ++ [kind, v1, v0], none⟩ := by
  by_cases hk : 4 ≤ kind.toNat
  · rw [decodeRegAt_controller hk] at h
    split at h
    next hm =>
      obtain ⟨acc, hacc, rfl⟩ := orElse_map_eq_ok h
      have haddr : a = BitVec.ofNat 32 (0xFF8604 + (a.getLsbD 0).toNat) := addr_of_row16 dataRow_mem ha hm
      refine (congrArg some (encodeReg16_of_access16 hacc 0xFF8604 4)).trans ?_
      rw [← haddr, BitVec.sub_add_cancel]
    next => cases h
  · obtain ⟨b, o, haccess⟩ := registerAccess_of_decodeRegAt ha (Nat.lt_of_not_le hk) h
    exact haccess.encode_eq

theorem encode_of_decodeReg {bytes : List Byte} {i : Instr} (h : decodeReg bytes = .ok i) :
    encode i = some ⟨.reg, bytes, none⟩ := by
  unfold decodeReg at h
  split at h
  next hi mid lo kind v1 v0 =>
    have hencode := encode_of_decodeRegAt (mkAddr_fits hi mid lo).1 h
    rwa [bytesOfAddr_mkAddr] at hencode
  next => cases h

/-- Settles O6, format by format: each operand decoder's result is encoded as the bytes it was read from. -/
theorem encodeAfterDecode : Obligations.EncodeAfterDecode := by
  rintro ⟨f, bytes, d⟩ i h
  by_cases hcmd : f = .cmd
  · subst f
    exact encode_of_decodeCmd h
  cases d with
  | some d =>
    rw [decode, if_neg hcmd] at h
    cases h
  | none =>
    cases f with
    | cmd => exact absurd rfl hcmd
    | call => exact encode_of_decodeCall h
    | reg => exact encode_of_decodeReg h
    | blitOp => exact encode_of_decodeCode (rows := blitOpRows) (by decide) h
    | blitHop => exact encode_of_decodeCode (rows := blitHopRows) (by decide) h
    | tmodeAB => exact encode_of_decodeTmodeAB h
    | tmodeCD => exact encode_of_decodeTmodeCD h
    | dmaMode => exact encode_of_decodeCode (rows := dmaModeRows) (by decide) h
    | shiftMode => exact encode_of_decodeCode (rows := shiftModeRows) (by decide) h
    | sync => exact encode_of_decodeCode (rows := syncRows) (by decide) h
    | sndRate => exact encode_of_decodeCode (rows := sndRateRows) (by decide) h
    | sndCtrl => exact encode_of_decodeCode (rows := sndCtrlRows) (by decide) h

/-! ### The register accesses the encoder writes -/

/-- The encoding of an access of two-byte row `k` decodes to that access; a row of 16 entries takes its index from the
address. -/
theorem decode_encodeReg16 (k : Fin 17) (n : BitVec 4) (acc : Acc16) :
    decode (encodeReg16 (rowAddr regRows16[k] n) 0 acc) =
      .ok ((regRows16[k]).instr ((BitVec.ofNat 32 (rowAddr regRows16[k] n)).extractLsb' 1 4) acc) := by
  obtain ⟨odd, kind, v1, v0, hk, hacc⟩ := exists_access16 acc
  obtain ⟨hfound, hodd, hfits, hindex⟩ := row16_matches k n odd
  have hr : row16Of (BitVec.ofNat 32 (rowAddr regRows16[k] n + odd.toNat)) = some regRows16[k] := by
    rw [row16Of, List.find?_eq_getElem?_findIdx, hfound]
    exact List.getElem?_eq_getElem k.isLt
  rw [encodeReg16_of_access16 hacc, add_zero, decode_reg hfits, decodeRegAt_row16 hk hr, hodd, hacc, hindex]
  rfl

/-- The encoding of an access of one-byte row `k` decodes to that access. -/
theorem decode_encodeReg8 (k : Fin 31) (acc : Acc8) :
    decode (encodeReg8 (regRows8[k]).value.toNat acc) = .ok ((regRows8[k]).instr acc) := by
  obtain ⟨kind, v1, v0, hk, hacc⟩ := exists_access8 acc
  obtain ⟨hnone, hfound, hfits⟩ := row8_matches k
  have hr16 : row16Of (regRows8[k]).value = none := by
    rw [row16Of, List.find?_eq_getElem?_findIdx, hnone]
    rfl
  have hr : row8Of (regRows8[k]).value = some regRows8[k] := by
    rw [row8Of, List.find?_eq_getElem?_findIdx, hfound]
    exact List.getElem?_eq_getElem k.isLt
  rw [encodeReg8_of_access8 hacc, BitVec.ofNat_toNat, BitVec.setWidth_eq, decode_reg hfits,
    decodeRegAt_row8 hk hr16 hr, hacc]
  rfl

/-- The second DATA row is told from the first by its kinds (entry 8). -/
theorem decode_encodeController (acc : Acc16) :
    decode (encodeReg16 0xFF8604 4 acc) = .ok (.regDmaDataController acc) := by
  obtain ⟨odd, kind, v1, v0, hk, hacc⟩ := exists_access16 acc
  have hdata : ∀ odd : Bool, let a := BitVec.ofNat 32 (0xFF8604 + odd.toNat)
      fitsThreeBytes a = true ∧ a &&& 0xFFFFFE = 0xFF8604 ∧ a.getLsbD 0 = odd := by decide
  have hkinds : ∀ kind : Byte, kind.toNat < 4 → 4 ≤ (kind + 4).toNat := by decide
  obtain ⟨hfits, hm, hodd⟩ := hdata odd
  rw [encodeReg16_of_access16 hacc, decode_reg hfits, decodeRegAt_controller (hkinds kind hk), if_pos hm, hodd,
    BitVec.add_sub_cancel, hacc]
  rfl

/-- The index of an entry of the tables HALFTONE and PALETTE is bits 4:1 of its address. -/
theorem halftone_index : ∀ n : BitVec 4, (BitVec.ofNat 32 (0xFF8A00 + 2 * n.toNat)).extractLsb' 1 4 = n := by decide

theorem palette_index : ∀ n : BitVec 4, (BitVec.ofNat 32 (0xFF8240 + 2 * n.toNat)).extractLsb' 1 4 = n := by decide

/-- Settles O5: the commands and calls by `decode_commandOrCall`, a register row as the entry of its table that its
address finds, named by its position, a field code as the entry of its table at its code. -/
theorem decodeAfterEncode : Obligations.DecodeAfterEncode := by
  intro i p hwf h
  by_cases hi : isCommandOrCall i = true
  · exact decode_commandOrCall hi hwf h
  cases i
  case run | rdB | rdW | wrB | wrW | iack | gpio | int | tai | dbin | dbout | resetC | resetW | snap | restore
    | schedule | advance | requestBus | idle | setGpioBit | pushSample | fire | grantDma | grantBlit | blitPhase
    | dmaWord => exact absurd rfl hi
  all_goals obtain rfl := Option.some.inj h
  case regBlitHalftone n acc =>
    exact (decode_encodeReg16 0 n acc).trans
      (congrArg (fun n => Except.ok (Instr.regBlitHalftone n acc)) (halftone_index n))
  case regBlitSrcXinc acc => exact decode_encodeReg16 1 0 acc
  case regBlitSrcYinc acc => exact decode_encodeReg16 2 0 acc
  case regBlitSrcAddrH acc => exact decode_encodeReg16 3 0 acc
  case regBlitSrcAddrL acc => exact decode_encodeReg16 4 0 acc
  case regBlitEndmask1 acc => exact decode_encodeReg16 5 0 acc
  case regBlitEndmask2 acc => exact decode_encodeReg16 6 0 acc
  case regBlitEndmask3 acc => exact decode_encodeReg16 7 0 acc
  case regBlitDstXinc acc => exact decode_encodeReg16 8 0 acc
  case regBlitDstYinc acc => exact decode_encodeReg16 9 0 acc
  case regBlitDstAddrH acc => exact decode_encodeReg16 10 0 acc
  case regBlitDstAddrL acc => exact decode_encodeReg16 11 0 acc
  case regBlitXCount acc => exact decode_encodeReg16 12 0 acc
  case regBlitYCount acc => exact decode_encodeReg16 13 0 acc
  case regDmaDataCount acc => exact decode_encodeReg16 14 0 acc
  case regDmaDataController acc => exact decode_encodeController acc
  case regDmaMode w => exact decode_encodeReg16 15 0 (.wr w)
  case regDmaStatus l => exact decode_encodeReg16 15 0 (.rd l)
  case regVidPaletteRead n l =>
    exact (decode_encodeReg16 16 n (.rd l)).trans
      (congrArg (fun n => Except.ok (Instr.regVidPaletteRead n l)) (palette_index n))
  case regVidPaletteWrite n w =>
    exact (decode_encodeReg16 16 n (.wr w)).trans
      (congrArg (fun n => Except.ok (Instr.regVidPaletteWrite n w)) (palette_index n))
  case regBlitHop acc => exact decode_encodeReg8 0 acc
  case regBlitOp acc => exact decode_encodeReg8 1 acc
  case regBlitCtrlRead => exact decode_encodeReg8 2 .rd
  case regBlitCtrlWrite v => exact decode_encodeReg8 2 (.wr v)
  case regBlitSkew acc => exact decode_encodeReg8 3 acc
  case regMfpGpip acc => exact decode_encodeReg8 4 acc
  case regMfpAer acc => exact decode_encodeReg8 5 acc
  case regMfpDdr acc => exact decode_encodeReg8 6 acc
  case regMfpIera acc => exact decode_encodeReg8 7 acc
  case regMfpIerb acc => exact decode_encodeReg8 8 acc
  case regMfpIpra acc => exact decode_encodeReg8 9 acc
  case regMfpIprb acc => exact decode_encodeReg8 10 acc
  case regMfpIsra acc => exact decode_encodeReg8 11 acc
  case regMfpIsrb acc => exact decode_encodeReg8 12 acc
  case regMfpImra acc => exact decode_encodeReg8 13 acc
  case regMfpImrb acc => exact decode_encodeReg8 14 acc
  case regMfpVr acc => exact decode_encodeReg8 15 acc
  case regMfpTacr acc => exact decode_encodeReg8 16 acc
  case regMfpTbcr acc => exact decode_encodeReg8 17 acc
  case regMfpTcdcr acc => exact decode_encodeReg8 18 acc
  case regMfpTadr acc => exact decode_encodeReg8 19 acc
  case regMfpTbdr acc => exact decode_encodeReg8 20 acc
  case regMfpTcdr acc => exact decode_encodeReg8 21 acc
  case regMfpTddr acc => exact decode_encodeReg8 22 acc
  case regDmaAddrHi acc => exact decode_encodeReg8 23 acc
  case regDmaAddrMid acc => exact decode_encodeReg8 24 acc
  case regDmaAddrLo acc => exact decode_encodeReg8 25 acc
  case regVidSync acc => exact decode_encodeReg8 26 acc
  case regVidShiftModeRead => exact decode_encodeReg8 27 .rd
  case regVidShiftModeWrite v => exact decode_encodeReg8 27 (.wr v)
  case regVidHscroll acc => exact decode_encodeReg8 28 acc
  case regSndSndCtrl acc => exact decode_encodeReg8 29 acc
  case regSndSndMode acc => exact decode_encodeReg8 30 acc
  -- the modes of the timers
  case tmStop t | tmDiv4 t | tmDiv10 t | tmDiv16 t | tmDiv50 t | tmDiv64 t | tmDiv100 t | tmDiv200 t | tmEvent t
    | tmRsv9 t | tmRsv10 t | tmRsv11 t | tmRsv12 t | tmRsv13 t | tmRsv14 t | tmRsv15 t => cases t <;> rfl
  case tmStopCd t | tmDiv4Cd t | tmDiv10Cd t | tmDiv16Cd t | tmDiv50Cd t | tmDiv64Cd t | tmDiv100Cd t | tmDiv200Cd t =>
    cases t <;> rfl
  -- the codes without an operand
  all_goals rfl

/-! ### Addresses that no row has -/

/-- Settles O8: no code of the two formats is equal to an unlisted one, and an address that matched a row would be
one of a register (`row_cases`). -/
theorem unlistedEncodingsRefused : Obligations.UnlistedEncodingsRefused := by
  refine ⟨fun code ops h => decodeCmd_unlisted h ops, fun code ops h => decodeCall_unlisted h ops, ?_⟩
  intro h m l v1 v0 kind hk hunlisted
  have hno {b : Bank} {o : Nat} : ¬ RegisterAddr (mkAddr h m l) b o := by
    rintro ⟨hsize, hreg, haddr⟩
    exact hunlisted b o hsize (Option.isSome_iff_ne_none.mp hreg) haddr
  obtain ⟨r, b, o, -, -, -, hreg⟩ | ⟨r, b, o, -, -, -, -, hreg⟩ | ⟨hr16, hr8⟩ := row_cases (mkAddr_fits h m l).1
  · exact absurd hreg hno
  · exact absurd hreg hno
  · exact decodeRegAt_none hk hr16 hr8

end Sys2Proof.Machine
end

section
/-! A row of format REG is the RD or WR command whose address falls on its register (30_encoding.md R110 b, R113). -/

namespace Sys2Proof.Machine

/-! ### RD and WR at the address of a register -/

/-- The banks at their default addresses do not overlap (20_memory.md R81). -/
theorem banks_disjoint {b b' : Bank} (h : b' ≠ b) :
    bankBase Config.default b + bankSize b ≤ bankBase Config.default b' ∨
      bankBase Config.default b' + bankSize b' ≤ bankBase Config.default b := by
  cases b <;> cases b' <;> revert h <;> decide

/-- An address of a bank lies in that bank, at its offset, and in no other. -/
theorem bankOffset_bank {c : Config} (hbase : ∀ b, bankBase c b = bankBase Config.default b) {b : Bank} {o : Nat}
    (ho : o < bankSize b) (b' : Bank) :
    bankOffset c b' (bankBase Config.default b + o) = if b' = b then some o else none := by
  have hrange (x : Nat) : inRange ⟨x, bankSize b'⟩ (bankBase Config.default b + o) = true ↔
      x ≤ bankBase Config.default b + o ∧ bankBase Config.default b + o < x + bankSize b' := by
    simp only [inRange, Bool.and_eq_true, decide_eq_true_eq]
  rw [bankOffset, hbase]
  by_cases h : b' = b
  · subst b'
    rw [if_pos rfl, if_pos ((hrange _).mpr (by omega)), Nat.add_sub_cancel_left]
  · have hdisjoint := banks_disjoint h
    rw [if_neg h, if_neg (fun hin => absurd ((hrange _).mp hin) (by omega))]

theorem regionOf_bank {c : Config} (hbase : ∀ b, bankBase c b = bankBase Config.default b) {a : Addr} {b : Bank}
    {o : Nat} (ho : o < bankSize b) (ha : a.toNat = bankBase Config.default b + o) : regionOf c a = .bank b o := by
  simp only [regionOf, ha, bankOffset_bank hbase ho]
  cases b <;> rfl

theorem toNat_addrAt_bank {b : Bank} {o : Nat} (ho : o < bankSize b) :
    (addrAt (bankBase Config.default b) o).toNat = bankBase Config.default b + o ∧
      bankBase Config.default b + o < 2 ^ 24 := by
  have htop : bankBase Config.default b + bankSize b ≤ 2 ^ 24 := by cases b <;> decide
  have hlt : bankBase Config.default b + o < 2 ^ 24 := by omega
  exact ⟨BitVec.toNat_ofNat .. ▸ Nat.mod_eq_of_lt (by omega), hlt⟩

/-- The bus decodes the address to an offset of a bank, which is reached at that same address. -/
structure OnBank (c : Config) (a : Addr) (b : Bank) (o : Nat) : Prop where
  onBus_eq : onBus c a = a
  remap_eq : remapAddr c a = a
  region_eq : regionOf c a = .bank b o
  bankAddr_eq : bankAddr c b o = a

theorem RegisterAddr.onBank {c : Config} (hremap : c.remap = []) (hwidth : 24 ≤ c.addrBits)
    (hbase : ∀ b, bankBase c b = bankBase Config.default b) {a : Addr} {b : Bank} {o : Nat} (h : RegisterAddr a b o) :
    OnBank c a b o := by
  obtain ⟨ho, -, rfl⟩ := h
  obtain ⟨hnat, hlt⟩ := toNat_addrAt_bank ho
  have hbus : onBus c (addrAt (bankBase Config.default b) o) = addrAt (bankBase Config.default b) o :=
    onBus_of_lt c _ (hnat ▸ lt_of_lt_of_le hlt (Nat.pow_le_pow_right two_pos hwidth))
  have hidentity (a : Addr) : remapAddr c a = a := by
    rw [remapAddr, hremap]
    rfl
  exact ⟨hbus, hidentity _, regionOf_bank hbase ho hnat, by rw [bankAddr, hbase, hbus]⟩

theorem whenCpu_congr {s : State} {f g : State → State} (h : f s = g s) : whenCpu s f = whenCpu s g := by
  rw [whenCpu, whenCpu, h]

theorem OnBank.busRead_eq {s : State} {a : Addr} {b : Bank} {o : Nat} (h : OnBank s.cfg a b o) (w : Width) :
    busRead s .cpu a w = txRead s .cpu (bankAddr s.cfg b o) (bankAddr s.cfg b o) (.bank b o) w := by
  rw [h.bankAddr_eq, busRead, h.onBus_eq, h.remap_eq, h.region_eq]

theorem OnBank.busWrite_eq {s : State} {a : Addr} {b : Bank} {o : Nat} (h : OnBank s.cfg a b o) (w : Width) (v : Word) :
    busWrite s .cpu a w v = txWrite s .cpu (bankAddr s.cfg b o) (bankAddr s.cfg b o) (.bank b o) w v := by
  rw [h.bankAddr_eq, busWrite, h.onBus_eq, h.remap_eq, h.region_eq]

theorem OnBank.exec_rdB {s : State} {a : Addr} {b : Bank} {o : Nat} (h : OnBank s.cfg a b o) :
    exec (.rdB a) s = .next (bankRead s b o .byte) :=
  next_congr (whenCpu_congr (congrArg (reportRead .byte) (h.busRead_eq .byte)))

theorem OnBank.exec_rdW {s : State} {a : Addr} {b : Bank} {o : Nat} (h : OnBank s.cfg a b o) (heven : isOdd a = false) :
    exec (.rdW a) s = .next (bankRead s b o .word) := by
  refine next_congr (whenCpu_congr ?_)
  rw [if_neg (by simp [heven]), h.busRead_eq]

theorem OnBank.exec_wrB {s : State} {a : Addr} {b : Bank} {o : Nat} (h : OnBank s.cfg a b o) (v : Byte) :
    exec (.wrB a v) s = .next (bankWrite s b o .byte (byteToWord v)) :=
  next_congr (whenCpu_congr (h.busWrite_eq .byte _))

theorem OnBank.exec_wrW {s : State} {a : Addr} {b : Bank} {o : Nat} (h : OnBank s.cfg a b o) (v : Word)
    (heven : isOdd a = false) : exec (.wrW a v) s = .next (bankWrite s b o .word v) := by
  refine next_congr (whenCpu_congr ?_)
  rw [if_neg (by simp [heven]), h.busWrite_eq]

/-- Settles O9: the row is an access to an offset of a bank (`RegisterAccess`), and that is where the bus takes the
command's address (`OnBank`). -/
theorem registerRowsAreBusAccesses : Obligations.RegisterRowsAreBusAccesses := by
  intro s h m l v1 v0 i hremap hwidth hbase
  have access {kind v1 v0 : Byte} (hk : kind.toNat < 4) (hi : decode ⟨.reg, [h, m, l, kind, v1, v0], none⟩ = .ok i) :
      ∃ b o, OnBank s.cfg (mkAddr h m l) b o ∧ RegisterAccess (mkAddr h m l) kind v1 v0 i b o := by
    obtain ⟨b, o, hacc⟩ := registerAccess_of_decodeRegAt (mkAddr_fits h m l).1 hk hi
    exact ⟨b, o, hacc.register.onBank hremap hwidth hbase, hacc⟩
  refine ⟨fun hi => ?_, fun hi => ?_, fun hi => ?_, fun hi => ?_⟩
  · obtain ⟨b, o, hbank, hacc⟩ := access (by decide) hi
    exact hbank.exec_rdB.trans (hacc.exec_eq s).symm
  · obtain ⟨b, o, hbank, hacc⟩ := access (by decide) hi
    exact (hbank.exec_rdW (hacc.even (.inl rfl))).trans (hacc.exec_eq s).symm
  · obtain ⟨b, o, hbank, hacc⟩ := access (by decide) hi
    exact (hbank.exec_wrB v0).trans (hacc.exec_eq s).symm
  · obtain ⟨b, o, hbank, hacc⟩ := access (by decide) hi
    exact (hbank.exec_wrW (mkWord v1 v0) (hacc.even (.inr rfl))).trans (hacc.exec_eq s).symm

end Sys2Proof.Machine
end

section
/-! The scheduler's calls, and the event FIRE takes (40_scheduler.md R142, R143, R145). -/

namespace Sys2Proof.Machine

/-! ### RUN and the narrow calls -/

/-- Settles O11: the command is enabled, and its operand is not the refused 0. -/
theorem runAddsItsTicks : Obligations.RunAddsItsTicks := by
  intro s n he hn
  refine congrArg Host.Outcome.next ((whenCpu_enabled he).trans ?_)
  rw [if_neg (Nat.ne_of_gt hn)]
  rfl

/-- Settles O26: the slots after SCHEDULE are those of `schedule_slot`; PUSH_SAMPLE splits on a full FIFO. -/
theorem narrowCalls : Obligations.NarrowCalls := by
  refine ⟨fun s id due => ⟨schedule s id due, rfl, rfl, rfl, rfl, ?_, fun x hx => ?_⟩,
    fun s c => ⟨rfl, rfl, rfl⟩, fun s w => ⟨fun hfull => ?_, fun hroom => ?_⟩⟩
  · rw [schedule_slot, if_pos rfl]
  · rw [schedule_slot, if_neg hx]
  · exact congrArg Host.Outcome.next (if_pos hfull)
  · exact congrArg Host.Outcome.next (if_neg hroom)

/-! ### The order of events -/

theorem slotIsDue_iff {s : State} {id : SlotId} :
    slotIsDue s id = true ↔ ∃ d, (s.slot id).due = some d ∧ d ≤ s.sched.now := by
  unfold slotIsDue
  cases (s.slot id).due <;> simp

theorem earlier_iff {a b : Slot} {d e : Nat} (ha : a.due = some d) (hb : b.due = some e) :
    earlier a b = true ↔ d < e ∨ (d = e ∧ a.seq < b.seq) := by
  simp [earlier, ha, hb]

theorem earlier_trans {s : State} {x y z : SlotId} (hx : slotIsDue s x = true) (hy : slotIsDue s y = true)
    (hz : slotIsDue s z = true) (hxy : earlier (s.slot x) (s.slot y) = true)
    (hyz : earlier (s.slot y) (s.slot z) = true) : earlier (s.slot x) (s.slot z) = true := by
  obtain ⟨_, hx, _⟩ := slotIsDue_iff.mp hx
  obtain ⟨_, hy, _⟩ := slotIsDue_iff.mp hy
  obtain ⟨_, hz, _⟩ := slotIsDue_iff.mp hz
  rw [earlier_iff hx hy] at hxy
  rw [earlier_iff hy hz] at hyz
  rw [earlier_iff hx hz]
  omega

/-- Of three due slots, the one between is later than the first or earlier than the last. -/
theorem earlier_or_earlier {s : State} {x z : SlotId} (y : SlotId) (hx : slotIsDue s x = true)
    (hy : slotIsDue s y = true) (hz : slotIsDue s z = true) (hxz : earlier (s.slot x) (s.slot z) = true) :
    earlier (s.slot x) (s.slot y) = true ∨ earlier (s.slot y) (s.slot z) = true := by
  obtain ⟨_, hx, _⟩ := slotIsDue_iff.mp hx
  obtain ⟨_, hy, _⟩ := slotIsDue_iff.mp hy
  obtain ⟨_, hz, _⟩ := slotIsDue_iff.mp hz
  rw [earlier_iff hx hz] at hxz
  rw [earlier_iff hx hy, earlier_iff hy hz]
  omega

theorem earlier_irrefl (a : Slot) : earlier a a = false := by
  cases h : a.due <;> simp [earlier, h]

/-! ### The least due slot -/

/-- One comparison of the search of `leastDue`. -/
def keepEarlier (s : State) (best : Option SlotId) (id : SlotId) : Option SlotId :=
  if slotIsDue s id then
    match best with
    | none => some id
    | some b => if earlier (s.slot id) (s.slot b) then some id else some b
  else best

theorem leastDue_eq (s : State) : leastDue s = slotIds.foldl (keepEarlier s) none := rfl

/-- `m` is due, and no due slot of the list is earlier. -/
def IsLeastDue (s : State) (l : List SlotId) (m : SlotId) : Prop :=
  slotIsDue s m = true ∧ ∀ x ∈ l, slotIsDue s x = true → earlier (s.slot x) (s.slot m) = false

/-- The search goes on from a due slot `b` to a least one of it and the rest. -/
theorem exists_foldl_keepEarlier {s : State} (l : List SlotId) {b : SlotId} (hb : slotIsDue s b = true) :
    ∃ m, l.foldl (keepEarlier s) (some b) = some m ∧ IsLeastDue s (b :: l) m := by
  induction l generalizing b with
  | nil => exact ⟨b, rfl, hb, by simp [earlier_irrefl]⟩
  | cons x l ih =>
    by_cases hx : slotIsDue s x = true
    · by_cases hxb : earlier (s.slot x) (s.slot b) = true
      · obtain ⟨m, hm, hdue, hleast⟩ := ih hx
        obtain ⟨hxm, -⟩ := List.forall_mem_cons.mp hleast
        refine ⟨m, by simpa [keepEarlier, hx, hxb] using hm, hdue,
          List.forall_mem_cons.mpr ⟨fun _ => ?_, hleast⟩⟩
        -- were `b` earlier than `m`, then so were `x`
        by_contra hbm
        have := earlier_trans hx hb hdue hxb (by simpa using hbm)
        simp [hxm hx] at this
      · obtain ⟨m, hm, hdue, hleast⟩ := ih hb
        obtain ⟨hbm, hrest⟩ := List.forall_mem_cons.mp hleast
        refine ⟨m, by simpa [keepEarlier, hx, hxb] using hm, hdue,
          List.forall_mem_cons.mpr ⟨hbm, List.forall_mem_cons.mpr ⟨fun _ => ?_, hrest⟩⟩⟩
        by_contra hxm
        rcases earlier_or_earlier b hx hb hdue (by simpa using hxm) with h | h
        · exact hxb h
        · simp [hbm hb] at h
    · obtain ⟨m, hm, hdue, hleast⟩ := ih hb
      obtain ⟨hbm, hrest⟩ := List.forall_mem_cons.mp hleast
      exact ⟨m, by simpa [keepEarlier, hx] using hm, hdue,
        List.forall_mem_cons.mpr ⟨hbm, List.forall_mem_cons.mpr ⟨fun h => absurd h hx, hrest⟩⟩⟩

/-- The search finds a least due slot of a list that holds a due one. -/
theorem exists_least_of_mem {s : State} (l : List SlotId) {x : SlotId} (hx : x ∈ l) (hdue : slotIsDue s x = true) :
    ∃ m, l.foldl (keepEarlier s) none = some m ∧ IsLeastDue s l m := by
  induction l with
  | nil => cases hx
  | cons y l ih =>
    by_cases hy : slotIsDue s y = true
    · simpa [keepEarlier, hy] using exists_foldl_keepEarlier l hy
    · obtain ⟨m, hm, hm', hleast⟩ := ih ((List.mem_cons.mp hx).resolve_left fun h => hy (h ▸ hdue))
      exact ⟨m, by simpa [keepEarlier, hy] using hm, hm',
        List.forall_mem_cons.mpr ⟨fun h => absurd h hy, hleast⟩⟩

theorem mem_slotIds (id : SlotId) : id ∈ slotIds := by cases id <;> decide

theorem fireEnabled_iff {s : State} : fireEnabled s = true ↔ ∃ id, slotIsDue s id = true := by
  simp [fireEnabled, List.any_eq_true, mem_slotIds]

/-- Where a slot is due, `leastDue` gives one that no due slot is earlier than (R145). -/
theorem exists_leastDue {s : State} (h : fireEnabled s = true) :
    ∃ m, leastDue s = some m ∧ slotIsDue s m = true ∧
      ∀ x, slotIsDue s x = true → earlier (s.slot x) (s.slot m) = false := by
  obtain ⟨id, hid⟩ := fireEnabled_iff.mp h
  obtain ⟨m, hm, hdue, hleast⟩ := exists_least_of_mem slotIds (mem_slotIds id) hid
  exact ⟨m, (leastDue_eq s).trans hm, hdue, fun x => hleast x (mem_slotIds x)⟩

theorem exec_fire {s : State} (h : fireEnabled s = true) : exec .fire s = .next (fireOne s) :=
  congrArg Host.Outcome.next (whenStep_enabled (by simp [pendingStep, h]))

theorem fireOne_of_leastDue {s : State} {id : SlotId} {d : Nat} (hid : leastDue s = some id)
    (hd : (s.slot id).due = some d) : fireOne s = callback (clearSlot s id) id d := by
  simp only [fireOne, hid, fireSlot, hd]

/-- Settles O28: a slot that no due one is earlier than can only be the one that is earlier than every other. -/
theorem fireTakesTheLeastDueEvent : Obligations.FireTakesTheLeastDueEvent := by
  intro s id d hd hnow hleast
  have hdue : slotIsDue s id = true := slotIsDue_iff.mpr ⟨d, hd, hnow⟩
  have hfire : fireEnabled s = true := fireEnabled_iff.mpr ⟨id, hdue⟩
  obtain ⟨m, hm, hmdue, hfirst⟩ := exists_leastDue hfire
  obtain rfl : m = id := by
    by_contra hne
    obtain ⟨e, he, _⟩ := slotIsDue_iff.mp hmdue
    exact absurd ((earlier_iff hd he).mpr (hleast m e hne he)) (by simp [hfirst id hdue])
  rw [exec_fire hfire, fireOne_of_leastDue hm hd]
  rfl

end Sys2Proof.Machine
end

section
/-! ADVANCE ends (40_scheduler.md R144): every firing takes one from a number that `now` bounds, so that the loop of
ADVANCE runs out of due events before its allowance. -/

namespace Sys2Proof.Machine

/-! ### What leaves the clock, or the whole scheduler, alone -/

/-- The configuration and the whole scheduler. -/
def calendar (s : State) : Config × Sched := (s.cfg, s.sched)

/-- The configuration and `now`. -/
def clock (s : State) : Config × Nat := (s.cfg, s.sched.now)

theorem clock_of_calendar {s t : State} (h : calendar t = calendar s) : clock t = clock s :=
  congrArg (fun c : Config × Sched => (c.1, c.2.now)) h

theorem sched_of_calendar {s t : State} (h : calendar t = calendar s) : t.sched = s.sched := congrArg Prod.snd h

theorem now_of_clock {s t : State} (h : clock t = clock s) : t.sched.now = s.sched.now := congrArg Prod.snd h

theorem cfg_of_clock {s t : State} (h : clock t = clock s) : t.cfg = s.cfg := congrArg Prod.fst h

@[simp] theorem calendar_withMfp (s : State) (x : Mfp) : calendar (s.withMfp x) = calendar s := rfl
@[simp] theorem calendar_withSnd (s : State) (x : Snd) : calendar (s.withSnd x) = calendar s := rfl
@[simp] theorem calendar_withEnv (s : State) (x : Env) : calendar (s.withEnv x) = calendar s := rfl
@[simp] theorem calendar_emitSample (s : State) (w : Word) : calendar (emitSample s w) = calendar s := rfl
@[simp] theorem calendar_setTimer (s : State) (id : TimerId) (x : Timer) :
    calendar (setTimer s id x) = calendar s := rfl

@[simp] theorem clock_schedule (s : State) (id : SlotId) (t : Option Nat) : clock (schedule s id t) = clock s := rfl
@[simp] theorem clock_clearSlot (s : State) (id : SlotId) : clock (clearSlot s id) = clock s := rfl

@[simp] theorem calendar_mfpEvent (s : State) (src : BitVec 4) : calendar (mfpEvent s src) = calendar s := by
  obtain ⟨p, tr, h⟩ := mfpEvent_frame s src
  rw [h]
  rfl

@[simp] theorem calendar_timerInput (s : State) (t : TimerAB) (v : Bool) :
    calendar (timerInput s t v) = calendar s := by
  simp only [timerInput]
  split
  · split <;> simp
  · simp

@[simp] theorem calendar_drawSample (s : State) : calendar (drawSample s).2 = calendar s := by
  unfold drawSample
  split <;> simp

@[simp] theorem calendar_pushSample (s : State) (w : Word) : calendar (pushSample s w) = calendar s := by
  unfold pushSample
  split <;> simp

@[simp] theorem calendar_fillFifo (n : Nat) (s : State) : calendar (fillFifo n s) = calendar s := by
  induction n generalizing s with
  | zero => rfl
  | succ n ih =>
    simp only [fillFifo]
    split
    · simp [ih]
    · rfl

/-! ### What the callbacks schedule (R146) -/

/-- A callback that arms no slot. -/
def armsNothing : SlotId → Bool
  | .blitResume | .vidDeOn | .vidDeOff | .vidHb => true
  | _ => false

theorem calendar_callback {id : SlotId} (h : armsNothing id = true) (s : State) (t : Nat) :
    calendar (callback s id t) = calendar s := by
  cases id
  case blitResume =>
    simp only [callback, blitResume]
    split <;> rfl
  case vidDeOn | vidDeOff => exact calendar_timerInput (s.withVid _) _ _
  case vidHb =>
    simp only [callback, vidHb]
    split <;> simp
  all_goals cases h

/-- `u` is `s` with one slot armed anew, a positive number of ticks after `t`, and the units changed. -/
def Rearmed (s : State) (id : SlotId) (t : Nat) (u : State) : Prop :=
  ∃ v p, calendar v = calendar s ∧ 0 < p ∧ u = schedule v id (some (t + p))

theorem timerValue_pos (v : Byte) : 0 < timerValue v := by
  unfold timerValue
  split
  · decide
  · next h => exact Nat.pos_of_ne_zero fun h0 => h (BitVec.eq_of_toNat_eq h0)

theorem underflow_rearms (s : State) (id : TimerId) (t : Nat) : Rearmed s (timerSlot id) t (underflow s id t) := by
  simp only [underflow]
  split
  · next p hp =>
    refine ⟨_, _, ?_, ?_, rfl⟩
    · exact calendar_mfpEvent _ _
    · exact Nat.mul_pos (timerValue_pos _) (timerClass_delay_pos _ p hp)
  · refine ⟨_, _, ?_, ?_, rfl⟩
    · simp
    · exact Nat.mul_pos (timerValue_pos _) (Nat.succ_pos _)

/-- What `Config.wf` asks of the periods (45_video.md R431; entry 25). -/
theorem periods_pos {c : Config} (h : c.wf = true) :
    (∀ r, 0 < samplePeriod c r) ∧ ∀ m, 0 < (videoTiming c m).lineLen := by
  simp only [Config.wf, VideoTiming.wf, Bool.and_eq_true, decide_eq_true_eq] at h
  refine ⟨fun r => ?_, fun m => ?_⟩
  · unfold samplePeriod
    split_ifs <;> omega
  · cases m <;> simp only [videoTiming] <;> omega

theorem sndDrain_rearms {s : State} (h : s.cfg.wf = true) (t : Nat) : Rearmed s .sndDrain t (sndDrain s t) := by
  unfold sndDrain
  split
  all_goals
    refine ⟨_, _, ?_, ?_, rfl⟩
    · simp
    · exact (periods_pos h).1 _

/-! ### The number of firings left -/

/-- The ticks from a due time up to `now`, both counted. -/
def ticksDue (now : Nat) : Option Nat → Nat
  | none => 0
  | some d => now + 1 - d

/-- How many firings a slot with a due time may still lead to, up to `now`: one where its callback arms nothing; one a
tick where it arms itself; and VID_LINE arms three slots of the first kind besides itself. -/
def slotFirings (now : Nat) (id : SlotId) (due : Option Nat) : Nat :=
  if armsNothing id then due.isSome.toNat else if id = .vidLine then 4 * ticksDue now due else ticksDue now due

/-- The sum over the slots. -/
def firingsLeft (s : State) : Nat := (slotIds.map fun id => slotFirings s.sched.now id (s.slot id).due).sum

theorem slotFirings_none (now : Nat) (id : SlotId) : slotFirings now id none = 0 := by
  cases id <;> rfl

theorem slotFirings_armsNothing {now : Nat} {id : SlotId} (h : armsNothing id = true) (d : Nat) :
    slotFirings now id (some d) = 1 := by
  simp [slotFirings, h]

/-- A slot that arms itself has fewer firings left than it had. -/
theorem slotFirings_later {now d p : Nat} {id : SlotId} (h : armsNothing id = false) (hd : d ≤ now) (hp : 0 < p) :
    slotFirings now id (some (d + p)) < slotFirings now id (some d) := by
  simp only [slotFirings, h, ticksDue, Bool.false_eq_true, if_false]
  split_ifs <;> omega

theorem slotFirings_line_later {now d p : Nat} (hd : d ≤ now) (hp : 0 < p) :
    slotFirings now .vidLine (some (d + p)) + 4 ≤ slotFirings now .vidLine (some d) := by
  simp only [slotFirings, armsNothing, ticksDue, Bool.false_eq_true, if_false, if_true]
  omega

/-- The bound of ADVANCE allows for every firing (R144). -/
theorem firingsLeft_le (s : State) : firingsLeft s ≤ advanceBound s := by
  have ticks (due : Option Nat) : ticksDue s.sched.now due ≤ s.sched.now + 1 := by
    cases due <;> simp [ticksDue]
  have share (id : SlotId) : slotFirings s.sched.now id (s.slot id).due ≤
      if armsNothing id then 1 else if id = .vidLine then 4 * (s.sched.now + 1) else s.sched.now + 1 := by
    have := ticks (s.slot id).due
    unfold slotFirings
    split_ifs
    · exact Bool.toNat_le _
    · omega
    · exact this
  calc firingsLeft s
      ≤ (slotIds.map fun id =>
          if armsNothing id then 1 else if id = .vidLine then 4 * (s.sched.now + 1) else s.sched.now + 1).sum :=
        List.sum_le_sum fun id _ => share id
    _ = 9 * (s.sched.now + 1) + 4 := by
        simp [slotIds, armsNothing]
        omega
    _ ≤ advanceBound s := by
        unfold advanceBound
        omega

theorem firingsLeft_of_calendar {s t : State} (h : calendar t = calendar s) : firingsLeft t = firingsLeft s := by
  simp only [firingsLeft, State.slot, sched_of_calendar h]

/-- A slot replaced changes its own share of the sum. -/
theorem firingsLeft_put {s t : State} {id : SlotId} {x : Slot} (hnow : t.sched.now = s.sched.now)
    (hslots : t.sched.slots = slotPut s.sched.slots id x) :
    firingsLeft t + slotFirings s.sched.now id (s.slot id).due = firingsLeft s + slotFirings s.sched.now id x.due := by
  simp only [firingsLeft, State.slot, hnow, hslots, slotIds, List.map_cons, List.map_nil, List.sum_cons, List.sum_nil]
  cases id <;> simp only [slotPut, slotGet] <;> omega

theorem firingsLeft_clearSlot (s : State) (id : SlotId) :
    firingsLeft (clearSlot s id) + slotFirings s.sched.now id (s.slot id).due = firingsLeft s := by
  have h := firingsLeft_put (s := s) (t := clearSlot s id) (id := id) rfl rfl
  rwa [slotFirings_none] at h

theorem firingsLeft_schedule_le (s : State) (id : SlotId) (due : Option Nat) :
    firingsLeft (schedule s id due) ≤ firingsLeft s + slotFirings s.sched.now id due := by
  have h := firingsLeft_put (s := s) (t := schedule s id due) (id := id) rfl rfl
  dsimp only at h
  omega

theorem Rearmed.firingsLeft_lt {s u : State} {id : SlotId} {d : Nat} (h : Rearmed s id d u)
    (hid : armsNothing id = false) (hd : d ≤ s.sched.now) :
    firingsLeft u < firingsLeft s + slotFirings s.sched.now id (some d) := by
  obtain ⟨v, p, hv, hp, rfl⟩ := h
  have hle := firingsLeft_schedule_le v id (some (d + p))
  rw [firingsLeft_of_calendar hv, sched_of_calendar hv] at hle
  exact lt_of_le_of_lt hle (Nat.add_lt_add_left (slotFirings_later hid hd hp) _)

/-- A new line arms VID_LINE once, and at most three slots whose callbacks arm nothing (45_video.md R439). -/
theorem firingsLeft_latchAndArm_le (s : State) (m : VideoMode) (t : Nat) :
    firingsLeft (latchAndArm s m t) ≤
      firingsLeft s + slotFirings s.sched.now .vidLine (some (t + (videoTiming s.cfg m).lineLen)) + 3 := by
  have one {u : State} {id : SlotId} (h : armsNothing id = true) (d : Nat) :
      firingsLeft (schedule u id (some d)) ≤ firingsLeft u + 1 :=
    slotFirings_armsNothing h d ▸ firingsLeft_schedule_le u id (some d)
  have line (b : Bounds) (d : Nat) : firingsLeft (schedule (s.withVid { s.vid with bounds := b }) .vidLine (some d)) ≤
      firingsLeft s + slotFirings s.sched.now .vidLine (some d) := firingsLeft_schedule_le (s.withVid _) _ _
  simp only [latchAndArm]
  refine (one rfl _).trans (Nat.succ_le_succ ?_)
  split
  · refine (one rfl _).trans (Nat.succ_le_succ ((one rfl _).trans (Nat.succ_le_succ (line _ _))))
  · exact (line _ _).trans (Nat.le_add_right _ 2)

/-- A callback makes room for fewer firings than the one it is. -/
theorem firingsLeft_callback_lt {s : State} (hwf : s.cfg.wf = true) (id : SlotId) {d : Nat} (hd : d ≤ s.sched.now) :
    firingsLeft (callback s id d) < firingsLeft s + slotFirings s.sched.now id (some d) := by
  cases id with
  | ta => exact (underflow_rearms s .a d).firingsLeft_lt rfl hd
  | tb => exact (underflow_rearms s .b d).firingsLeft_lt rfl hd
  | tc => exact (underflow_rearms s .c d).firingsLeft_lt rfl hd
  | td => exact (underflow_rearms s .d d).firingsLeft_lt rfl hd
  | sndDrain => exact (sndDrain_rearms hwf d).firingsLeft_lt rfl hd
  | blitResume | vidDeOn | vidDeOff | vidHb =>
    rw [firingsLeft_of_calendar (calendar_callback rfl s d), slotFirings_armsNothing rfl]
    exact Nat.lt_succ_self _
  | vidLine =>
    have hline := slotFirings_line_later hd ((periods_pos hwf).2 (videoMode s.vid))
    have armed (v : Vid) : firingsLeft (latchAndArm (s.withVid v) (videoMode s.vid) d) ≤ firingsLeft s +
        slotFirings s.sched.now .vidLine (some (d + (videoTiming s.cfg (videoMode s.vid)).lineLen)) + 3 :=
      firingsLeft_latchAndArm_le _ _ _
    exact lt_of_le_of_lt (armed _) (by omega)

theorem fireOne_lt {s : State} (hwf : s.cfg.wf = true) (h : fireEnabled s = true) :
    firingsLeft (fireOne s) < firingsLeft s := by
  obtain ⟨id, hid, hdue, -⟩ := exists_leastDue h
  obtain ⟨d, hd, hnow⟩ := slotIsDue_iff.mp hdue
  have hclear := firingsLeft_clearSlot s id
  have hlt := firingsLeft_callback_lt (s := clearSlot s id) hwf id hnow
  rw [fireOne_of_leastDue hid hd]
  rw [hd] at hclear
  exact hclear ▸ hlt

/-! ### The clock stays -/

@[simp] theorem clock_underflow (s : State) (id : TimerId) (t : Nat) : clock (underflow s id t) = clock s := by
  obtain ⟨v, p, hv, -, h⟩ := underflow_rearms s id t
  rw [h, clock_schedule, clock_of_calendar hv]

@[simp] theorem clock_latchAndArm (s : State) (m : VideoMode) (t : Nat) : clock (latchAndArm s m t) = clock s := by
  simp only [latchAndArm]
  split <;> rfl

theorem clock_sndDrain (s : State) (t : Nat) : clock (sndDrain s t) = clock s := by
  unfold sndDrain
  split <;> rfl

theorem clock_callback (s : State) (id : SlotId) (t : Nat) : clock (callback s id t) = clock s := by
  cases id with
  | ta | tb | tc | td => exact clock_underflow _ _ _
  | blitResume | vidDeOn | vidDeOff | vidHb => exact clock_of_calendar (calendar_callback rfl s t)
  | vidLine => exact clock_latchAndArm (s.withVid _) _ _
  | sndDrain => exact clock_sndDrain _ _

theorem clock_fireOne (s : State) : clock (fireOne s) = clock s := by
  unfold fireOne fireSlot
  split
  · split
    · exact clock_callback (clearSlot s _) _ _
    · rfl
  · rfl

/-! ### The loop -/

/-- Where the allowance covers the firings left, the loop gives the first iterate of FIRE with no slot due. -/
theorem advanceLoop_ends {n : Nat} {s : State} (hwf : s.cfg.wf = true) (hn : firingsLeft s ≤ n) :
    ∃ k, advanceLoop n s = some (fireOne^[k] s) ∧ (∀ j < k, fireEnabled (fireOne^[j] s) = true) ∧
      fireEnabled (fireOne^[k] s) = false := by
  induction n generalizing s with
  | zero =>
    have hnone : fireEnabled s = false := Bool.eq_false_iff.mpr fun h => by
      have := fireOne_lt hwf h
      omega
    exact ⟨0, by simp [advanceLoop, hnone], by simp, hnone⟩
  | succ n ih =>
    cases hdue : fireEnabled s with
    | false => exact ⟨0, by simp [advanceLoop, hdue], by simp, hdue⟩
    | true =>
      have hlt := fireOne_lt hwf hdue
      have hwf' : (fireOne s).cfg.wf = true := cfg_of_clock (clock_fireOne s) ▸ hwf
      obtain ⟨k, hloop, hbefore, hend⟩ := ih hwf' (by omega)
      refine ⟨k + 1, ?_, fun j hj => ?_, hend⟩
      · rw [advanceLoop, if_pos hdue, hloop, Function.iterate_succ_apply]
      · cases j with
        | zero => exact hdue
        | succ j => exact hbefore j (by omega)

theorem clock_iterate_fireOne (n : Nat) (s : State) : clock (fireOne^[n] s) = clock s := by
  induction n with
  | zero => rfl
  | succ n ih => rw [Function.iterate_succ_apply', clock_fireOne, ih]

theorem keepsRam_iterate_fireOne (n : Nat) (s : State) : KeepsRam s (fireOne^[n] s) := by
  induction n with
  | zero => exact .refl s
  | succ n ih => exact Function.iterate_succ_apply' fireOne n s ▸ ih.trans (fireOne_keepsRam _)

/-- Settles O27: the allowance of ADVANCE covers the firings left, by `fireOne_lt` and `firingsLeft_le`. -/
theorem advanceEnds : Obligations.AdvanceEnds := by
  intro s hwf
  obtain ⟨n, hloop, hbefore, hend⟩ := advanceLoop_ends hwf (firingsLeft_le s)
  have hexec : exec .advance s = .next (fireOne^[n] s) := by
    change execAdvance s = _
    rw [execAdvance, hloop]
  exact ⟨n, _, hexec, rfl, hbefore, hend, now_of_clock (clock_iterate_fireOne n s),
    (keepsRam_iterate_fireOne n s).sameRam⟩

end Sys2Proof.Machine
end

section
/-! Time moves forward (40_scheduler.md R140): the rules of the units leave the configuration and `now` as they are, a
transaction and the calls that cost ticks add to `now`, and no instruction but RESET.C and RESTORE does anything else
to them. -/

namespace Sys2Proof.Machine

/-! ### The rules of the units leave the clock alone -/

@[simp] theorem clock_withOwner (s : State) (x : Master) : clock (s.withOwner x) = clock s := rfl
@[simp] theorem clock_withBlit (s : State) (x : Blit) : clock (s.withBlit x) = clock s := rfl
@[simp] theorem clock_withDma (s : State) (x : Dma) : clock (s.withDma x) = clock s := rfl
@[simp] theorem clock_withVid (s : State) (x : Vid) : clock (s.withVid x) = clock s := rfl
@[simp] theorem clock_emitTrace (s : State) (e : TraceRec) : clock (emitTrace s e) = clock s := rfl
@[simp] theorem clock_requestBlit (s : State) : clock (requestBlit s) = clock s := rfl

/-- Both arms of a choice. -/
theorem clock_ite {s a b : State} {c : Prop} [Decidable c] (ha : clock a = clock s) (hb : clock b = clock s) :
    clock (if c then a else b) = clock s := by
  split
  · exact ha
  · exact hb

@[simp] theorem clock_mfpEvent (s : State) (src : BitVec 4) : clock (mfpEvent s src) = clock s :=
  clock_of_calendar (calendar_mfpEvent s src)

@[simp] theorem clock_setGpioBit (s : State) (i : BitVec 3) (v : Bool) : clock (setGpioBit s i v) = clock s := by
  obtain ⟨p, tr, h⟩ := setGpioBit_frame s i v
  rw [h]
  rfl

@[simp] theorem clock_setMode (s : State) (id : TimerId) (m : BitVec 4) : clock (setMode s id m) = clock s := by
  obtain ⟨_, _, _, h⟩ | ⟨_, _, _, h⟩ | ⟨_, h⟩ := setMode_cases s id m <;> rw [h] <;> rfl

@[simp] theorem clock_blitStart (s : State) : clock (blitStart s) = clock s := by simp [blitStart]

@[simp] theorem clock_blitAbort (s : State) : clock (blitAbort s) = clock s := by simp [blitAbort]

@[simp] theorem clock_writeBlitCtrl (s : State) (v : Byte) : clock (writeBlitCtrl s v) = clock s :=
  clock_ite (clock_ite rfl (clock_blitStart (s.withBlit _))) (clock_ite (clock_blitAbort (s.withBlit _)) rfl)

@[simp] theorem clock_regRead (s : State) (r : Reg) : clock (regRead s r).2 = clock s := by
  cases r
  case data =>
    simp only [regRead, readDmaData, drawCtrl]
    split
    · rfl
    · split <;> rfl
  all_goals rfl

@[simp] theorem clock_regWrite (s : State) (r : Reg) (v : BitVec 32) : clock (regWrite s r v) = clock s := by
  cases r <;> simp only [regWrite]
  case ctrl => exact clock_writeBlitCtrl _ _
  case tacr | tbcr => exact clock_setMode _ _ _
  case tcdcr => exact (clock_setMode _ _ _).trans (clock_setMode _ _ _)
  case tadr | tbdr | tcdr | tddr => exact clock_ite rfl rfl
  case data => exact clock_ite (clock_setGpioBit (s.withDma _) _ _) rfl
  case mode => exact clock_ite rfl (clock_setGpioBit (s.withDma _) _ _)
  case sndCtrl => exact clock_ite rfl (clock_ite rfl rfl)
  all_goals rfl

@[simp] theorem clock_regReadByte (s : State) (b : Bank) (o : Nat) : clock (regReadByte s b o).2 = clock s := by
  unfold regReadByte
  split
  · rfl
  · exact clock_regRead _ _

@[simp] theorem clock_regReadWord (s : State) (b : Bank) (o : Nat) : clock (regReadWord s b o).2 = clock s := by
  unfold regReadWord
  split
  · split <;> simp
  · simp

@[simp] theorem clock_regWriteByte (s : State) (b : Bank) (o : Nat) (v : Byte) :
    clock (regWriteByte s b o v) = clock s := by
  unfold regWriteByte
  split
  · rfl
  · split <;> simp

@[simp] theorem clock_regWriteWord (s : State) (b : Bank) (o : Nat) (v : Word) :
    clock (regWriteWord s b o v) = clock s := by
  unfold regWriteWord
  split
  · exact clock_ite (clock_ite (by simp) (by simp)) (by simp)
  · simp

theorem clock_diskIn (s : State) (b : Byte) : clock (diskIn s b) = clock s :=
  clock_ite rfl (clock_ite rfl (clock_ite rfl rfl))

theorem clock_diskOut (s : State) : clock (diskOut s) = clock s := clock_ite rfl (clock_ite rfl rfl)

theorem clock_videoReset (s : State) : clock (videoReset s) = clock s := by simp [videoReset]

theorem clock_resetCommon (s : State) : clock (resetCommon s) = clock s := clock_videoReset (resetUnits s)

theorem clock_blitToIdle (s : State) : clock (blitToIdle s) = clock s := by
  simp only [blitToIdle]
  split <;> rfl

theorem clock_videoToReset (s : State) : clock (videoToReset s) = clock s := by
  simp [videoToReset, clock_videoReset]

/-- A recovery leaves the clock as the dump has set it. -/
theorem clock_restoreDump (s : State) (d : Dump) : clock (restoreDump s d) = clock (loadDump s d) :=
  have recovered (bad : Bool) {f : State → State} {x : State} (hf : clock (f x) = clock x) :
      clock (recoverIf bad f x) = clock x := clock_ite hf rfl
  ((((recovered _ (clock_videoToReset _)).trans (recovered _ rfl)).trans (recovered _ rfl)).trans
    (recovered _ rfl)).trans (recovered _ (clock_blitToIdle _))

/-! ### Time that passes -/

/-- `t` has the configuration of `s`, and its `now` is not before that of `s`. -/
def Forward (s t : State) : Prop := t.cfg = s.cfg ∧ s.sched.now ≤ t.sched.now

theorem Forward.of_clock {s t : State} (h : clock t = clock s) : Forward s t :=
  ⟨cfg_of_clock h, (now_of_clock h).ge⟩

theorem Forward.trans {s t u : State} (h : Forward s t) (h' : Forward t u) : Forward s u :=
  ⟨h'.1.trans h.1, h.2.trans h'.2⟩

theorem Forward.ite {s a b : State} {c : Prop} [Decidable c] (ha : Forward s a) (hb : Forward s b) :
    Forward s (if c then a else b) := by
  split
  · exact ha
  · exact hb

theorem Forward.whenCpu {s : State} {f : State → State} (h : Forward s (f s)) : Forward s (whenCpu s f) :=
  .ite h (.of_clock rfl)

theorem Forward.whenEnvironment {s : State} {f : State → State} (h : clock (f s) = clock s) :
    Forward s (whenEnvironment s f) :=
  .ite (.of_clock rfl) (.of_clock h)

theorem Forward.whenStep {s : State} {k : InternalStep} {f : State → State} (h : Forward s (f s)) :
    Forward s (whenStep s k f) :=
  .ite h (.of_clock rfl)

/-! Transactions (41_bus_arbiter.md R169 to R171) -/

theorem forward_advanceNow (s : State) (n : Nat) : Forward s (advanceNow s n) := ⟨rfl, Nat.le_add_right _ _⟩

theorem forward_charge (s : State) (u : Master) (c : Nat) : Forward s (charge s u c) :=
  charge_eq s u c ▸ ⟨rfl, Nat.le_add_right _ _⟩

theorem forward_takeBusError (s : State) (u : Master) (a : Addr) (d : Dir) : Forward s (takeBusError s u a d) :=
  forward_charge (emitReport s _) u _

theorem clock_readRegion (s : State) (p : Addr) (r : Region) (w : Width) : clock (readRegion s p r w).2 = clock s := by
  cases r with
  | ram | bank => cases w <;> simp [readRegion]
  | ext =>
    simp only [readRegion, drawExt]
    split <;> rfl
  | none => rfl

theorem clock_writeRegion {s t : State} {p : Addr} {r : Region} {w : Width} {v : Word}
    (h : writeRegion s p r w v = some t) : clock t = clock s := by
  cases r with
  | ram => cases w <;> exact Option.some.inj h ▸ rfl
  | bank b o =>
    cases w with
    | byte => exact Option.some.inj h ▸ clock_regWriteByte _ _ _ _
    | word => exact Option.some.inj h ▸ clock_regWriteWord _ _ _ _
  | ext => exact Option.some.inj h ▸ rfl
  | none => cases h

theorem forward_txRead (s : State) (u : Master) (a p : Addr) (r : Region) (w : Width) :
    Forward s (txRead s u a p r w).2 := by
  have read {v : Option Word} {s1 : State} (h : readRegion (s.withBus { s.bus with addrLatch := a }) p r w = (v, s1))
      (b : Bus) : Forward s (s1.withBus b) := by
    have hclock := clock_readRegion (s.withBus { s.bus with addrLatch := a }) p r w
    rw [h] at hclock
    exact .of_clock hclock
  unfold txRead
  simp only
  split
  · next h => exact (read h _).trans (forward_charge _ _ _)
  · next h => exact (read h _).trans (forward_takeBusError _ _ _ _)

theorem forward_txWrite (s : State) (u : Master) (a p : Addr) (r : Region) (w : Width) (v : Word) :
    Forward s (txWrite s u a p r w v) := by
  have latched (b : Bus) : Forward s (s.withBus b) := .of_clock rfl
  unfold txWrite
  simp only
  split
  · next h => exact (latched _).trans ((Forward.of_clock (clock_writeRegion h)).trans (forward_charge _ _ _))
  · exact (latched _).trans (forward_takeBusError _ _ _ _)

theorem forward_busRead (s : State) (u : Master) (a : Addr) (w : Width) : Forward s (busRead s u a w).2 :=
  forward_txRead _ _ _ _ _ _

theorem forward_busWrite (s : State) (u : Master) (a : Addr) (w : Width) (v : Word) :
    Forward s (busWrite s u a w v) :=
  forward_txWrite _ _ _ _ _ _ _

theorem Forward.reportRead {s : State} {x : Option Word × State} (w : Width) (h : Forward s x.2) :
    Forward s (reportRead w x) := by
  obtain ⟨_ | v, t⟩ := x <;> exact h

theorem forward_bankRead (s : State) (b : Bank) (o : Nat) (w : Width) : Forward s (bankRead s b o w) :=
  .whenCpu (.reportRead w (forward_txRead s .cpu _ _ _ w))

theorem forward_bankWrite (s : State) (b : Bank) (o : Nat) (w : Width) (v : Word) : Forward s (bankWrite s b o w v) :=
  .whenCpu (forward_txWrite s .cpu _ _ _ w v)

theorem RowEffect.forward {s t : State} (h : RowEffect s t) : Forward s t := by
  cases h with
  | access16 b o acc =>
    match acc with
    | .rd _ => exact forward_bankRead _ _ _ _
    | .wr (.hi _) | .wr (.lo _) | .wr (.both _) => exact forward_bankWrite _ _ _ _ _
  | access8 b o acc =>
    match acc with
    | .rd => exact forward_bankRead _ _ _ _
    | .wr _ => exact forward_bankWrite _ _ _ _ _
  | write r v => exact .of_clock (clock_regWrite s r v)
  | mode id m => exact .of_clock (clock_setMode s id m)

/-! The steps of the blitter and of the DMA engine -/

theorem forward_blitRead (s : State) (a : Addr) : Forward s (blitRead s a).2 := forward_busRead s .blit a .word

/-- What follows the word a phase has read. -/
theorem clock_toPhase_withBlit (s : State) (b : Blit) (p : BitVec 3) : clock (toPhase (s.withBlit b) p) = clock s := rfl

theorem clock_nextWindow (s : State) : clock (nextWindow s) = clock s := clock_ite rfl rfl

theorem clock_lineEnd (s : State) : clock (lineEnd s) = clock s :=
  clock_ite (clock_setGpioBit (State.withOwner (s.withBlit _) .cpu) _ false) (clock_nextWindow (s.withBlit _))

theorem forward_blitWriteDest (s : State) : Forward s (blitWriteDest s) := by
  refine (forward_busWrite s .blit s.blit.dstAddr .word (blitOut s.blit)).trans (.of_clock ?_)
  unfold blitWriteDest
  generalize busWrite s .blit s.blit.dstAddr .word (blitOut s.blit) = t
  have released (b : Blit) : clock ((toPhase ((countTransaction t).withBlit b) phaseIdle).withOwner .cpu) = clock t :=
    rfl
  exact clock_ite ((clock_lineEnd _).trans (released _)) ((clock_nextWindow _).trans (released _))

theorem forward_blitPhaseStep (s : State) : Forward s (blitPhaseStep s) := by
  have read (a : Addr) (b : Blit) (p : BitVec 3) : Forward s (toPhase ((blitRead s a).2.withBlit b) p) :=
    (forward_blitRead s a).trans (.of_clock (clock_toPhase_withBlit _ b p))
  exact .ite (read _ _ _) (.ite (read _ _ _) (.ite (read _ _ _)
    (.ite (forward_blitWriteDest s) (.of_clock (clock_blitToIdle s)))))

theorem clock_countBurst (s : State) : clock (countBurst s) = clock s :=
  clock_ite (clock_setGpioBit (State.withDma _ _) _ _) rfl

theorem clock_endBurst (s : State) : clock (endBurst s) = clock s := by simp [endBurst, clock_countBurst]

theorem clock_afterWord (s : State) : clock (afterWord s) = clock s := by
  have moved (d : Dma) (b : Bus) : clock ((s.withDma d).withBus b) = clock s := rfl
  exact clock_ite ((clock_endBurst _).trans (moved _ _)) (moved _ _)

theorem forward_dmaWordStep (s : State) : Forward s (dmaWordStep s) :=
  .ite ((forward_busRead s .dma s.dma.addr .word).trans (.of_clock (clock_afterWord (State.withDma _ _))))
    ((forward_busWrite s .dma s.dma.addr .word _).trans (.of_clock (clock_afterWord _)))

/-! ### The instructions -/

theorem forward_execIack {l : BitVec 3} {s t : State} (h : execIack l s = .next t) : Forward s t := by
  refine Host.Outcome.next.inj h ▸ .whenCpu (.ite (.of_clock ?_) (.of_clock rfl))
  split <;> rfl

theorem clock_advanceLoop {n : Nat} {s t : State} (h : advanceLoop n s = some t) : clock t = clock s := by
  induction n generalizing s with
  | zero =>
    unfold advanceLoop at h
    split at h
    · cases h
    · exact Option.some.inj h ▸ rfl
  | succ n ih =>
    unfold advanceLoop at h
    split at h
    · exact (ih h).trans (clock_fireOne s)
    · exact Option.some.inj h ▸ rfl

theorem forward_execAdvance {s t : State} (h : execAdvance s = .next t) : Forward s t := by
  unfold execAdvance at h
  split at h
  · next hloop => exact Host.Outcome.next.inj h ▸ .of_clock (clock_advanceLoop hloop)
  · cases h

/-- Every instruction but RESET.C and RESTORE. -/
theorem exec_forward (i : Instr) (s t : State) (h : exec i s = .next t) (hcold : i ≠ .resetC)
    (hload : ∀ d, i ≠ .restore d) : Forward s t := by
  cases hrow : isCommandOrCall i with
  | false =>
    obtain ⟨t', ht', effect⟩ := exec_row i s hrow
    obtain rfl : t' = t := Host.Outcome.next.inj (ht'.symm.trans h)
    exact effect.forward
  | true =>
    cases i
    case resetC => exact absurd rfl hcold
    case restore d => exact absurd rfl (hload d)
    case iack => exact forward_execIack h
    case advance => exact forward_execAdvance h
    case requestBus u _ => cases u <;> exact Host.Outcome.next.inj h ▸ .of_clock rfl
    case run => exact Host.Outcome.next.inj h ▸ .whenCpu (.ite (.of_clock rfl) (forward_advanceNow _ _))
    case idle => exact Host.Outcome.next.inj h ▸ forward_advanceNow s _
    case rdB => exact Host.Outcome.next.inj h ▸ .whenCpu (.reportRead _ (forward_busRead _ _ _ _))
    case rdW =>
      exact Host.Outcome.next.inj h ▸ .whenCpu (.ite (.of_clock rfl) (.reportRead _ (forward_busRead _ _ _ _)))
    case wrB => exact Host.Outcome.next.inj h ▸ .whenCpu (forward_busWrite _ _ _ _ _)
    case wrW => exact Host.Outcome.next.inj h ▸ .whenCpu (.ite (.of_clock rfl) (forward_busWrite _ _ _ _ _))
    case gpio => exact Host.Outcome.next.inj h ▸ .whenEnvironment (clock_ite rfl (clock_setGpioBit _ _ _))
    case int => exact Host.Outcome.next.inj h ▸ .whenEnvironment (clock_ite (clock_mfpEvent _ _) rfl)
    case tai =>
      exact Host.Outcome.next.inj h ▸ .whenEnvironment (clock_of_calendar (calendar_timerInput _ _ _))
    case dbin => exact Host.Outcome.next.inj h ▸ .whenEnvironment (clock_diskIn _ _)
    case dbout => exact Host.Outcome.next.inj h ▸ .whenEnvironment (clock_diskOut _)
    case resetW => exact Host.Outcome.next.inj h ▸ .of_clock (clock_resetCommon s)
    case setGpioBit => exact Host.Outcome.next.inj h ▸ .of_clock (clock_setGpioBit _ _ _)
    case pushSample => exact Host.Outcome.next.inj h ▸ .of_clock (clock_of_calendar (calendar_pushSample _ _))
    case fire => exact Host.Outcome.next.inj h ▸ .whenStep (.of_clock (clock_fireOne s))
    case blitPhase => exact Host.Outcome.next.inj h ▸ .whenStep (forward_blitPhaseStep s)
    case dmaWord => exact Host.Outcome.next.inj h ▸ .whenStep (forward_dmaWordStep s)
    case grantDma | grantBlit => exact Host.Outcome.next.inj h ▸ .whenStep (.of_clock rfl)
    case snap | schedule => exact Host.Outcome.next.inj h ▸ .of_clock rfl
    -- the rows
    all_goals cases hrow

theorem coldReset_cfg (s : State) : (coldReset s).cfg = s.cfg := by
  rw [coldReset, cfg_of_clock (clock_resetCommon _)]

theorem restoreDump_cfg (s : State) (d : Dump) : (restoreDump s d).cfg = s.cfg := by
  rw [cfg_of_clock (clock_restoreDump s d), loadDump]

theorem execRestore_cfg {d : Option Dump} {s t : State} (h : execRestore d s = .next t) : t.cfg = s.cfg := by
  unfold execRestore at h
  split at h
  · split at h
    · exact Host.Outcome.next.inj h ▸ restoreDump_cfg s _
    · exact Host.Outcome.next.inj h ▸ rfl
  · exact Host.Outcome.next.inj h ▸ rfl

/-- Settles O56: `exec_forward` for all instructions but RESET.C and RESTORE, which set `now` anew under the same
configuration. -/
theorem timeOnlyMovesForward : Obligations.TimeOnlyMovesForward := by
  intro i s t h
  refine ⟨?_, fun hcold hload => (exec_forward i s t h hcold hload).2⟩
  by_cases hcold : i = .resetC
  · subst hcold
    exact Host.Outcome.next.inj h ▸ coldReset_cfg s
  · by_cases hload : ∃ d, i = .restore d
    · obtain ⟨d, rfl⟩ := hload
      exact execRestore_cfg h
    · exact (exec_forward i s t h hcold (not_exists.mp hload)).1

end Sys2Proof.Machine
end

section
/-! The step relation and the grants of the bus (41_bus_arbiter.md R160 to R164, R177): which internal step a state
enables, what a step does with the first waiting command, and what is left of a command that is turned away. -/

namespace Sys2Proof.Machine

/-! ### The priorities -/

/-- The rows of the table of R160: the conditions under which each internal step, or none of them, is enabled. -/
inductive EnabledStep (s : State) : Option InternalStep → Prop
  | fire (due : fireEnabled s = true) : EnabledStep s (some .fire)
  | dmaWord (quiet : fireEnabled s = false) (owner : s.owner = .dma) : EnabledStep s (some .dmaWord)
  | blitPhase (quiet : fireEnabled s = false) (owner : s.owner = .blit) : EnabledStep s (some .blitPhase)
  | grantDma (quiet : fireEnabled s = false) (owner : s.owner = .cpu) (wants : dmaWantsBus s = true) :
      EnabledStep s (some .grantDma)
  | grantBlit (quiet : fireEnabled s = false) (owner : s.owner = .cpu) (wants : dmaWantsBus s = false)
      (request : s.blit.request = true) : EnabledStep s (some .grantBlit)
  | idle (quiet : fireEnabled s = false) (owner : s.owner = .cpu) (wants : dmaWantsBus s = false)
      (request : s.blit.request = false) : EnabledStep s none

theorem EnabledStep.pendingStep_eq {s : State} {k : Option InternalStep} (h : EnabledStep s k) : pendingStep s = k := by
  cases h with
  | fire due => simp [pendingStep, due]
  | dmaWord quiet owner => simp [pendingStep, quiet, owner]
  | blitPhase quiet owner => simp [pendingStep, quiet, owner]
  | grantDma quiet owner wants => simp [pendingStep, quiet, owner, wants]
  | grantBlit quiet owner wants request => simp [pendingStep, quiet, owner, wants, request]
  | idle quiet owner wants request => simp [pendingStep, quiet, owner, wants, request]

/-- Every state meets the conditions of some row. -/
theorem exists_enabledStep (s : State) : ∃ k, EnabledStep s k := by
  cases due : fireEnabled s with
  | true => exact ⟨_, .fire due⟩
  | false =>
    cases owner : s.owner with
    | dma => exact ⟨_, .dmaWord due owner⟩
    | blit => exact ⟨_, .blitPhase due owner⟩
    | cpu =>
      cases wants : dmaWantsBus s with
      | true => exact ⟨_, .grantDma due owner wants⟩
      | false =>
        cases request : s.blit.request with
        | true => exact ⟨_, .grantBlit due owner wants request⟩
        | false => exact ⟨_, .idle due owner wants request⟩

theorem pendingStep_iff {s : State} {k : Option InternalStep} : pendingStep s = k ↔ EnabledStep s k := by
  refine ⟨fun h => ?_, EnabledStep.pendingStep_eq⟩
  obtain ⟨j, hj⟩ := exists_enabledStep s
  rwa [← h, hj.pendingStep_eq]

theorem cpuEnabled_iff {s : State} : cpuEnabled s = true ↔ pendingStep s = none := by simp [cpuEnabled]

/-- Settles O4: each clause reads off the one row of `EnabledStep` for its internal step. -/
theorem stepPriorities : Obligations.StepPriorities := by
  intro s
  have due_iff : fireEnabled s = true ↔ ∃ id d, (s.slot id).due = some d ∧ d ≤ s.sched.now := by
    simp only [fireEnabled_iff, slotIsDue_iff]
  refine ⟨?fire, ?dmaWord, ?blitPhase, ?grantDma, ?grantBlit, ?idle⟩
  case fire => exact pendingStep_iff.trans ⟨fun | .fire due => due_iff.mp due, fun h => .fire (due_iff.mpr h)⟩
  case dmaWord =>
    exact pendingStep_iff.trans ⟨fun | .dmaWord quiet owner => ⟨quiet, owner⟩,
      fun ⟨quiet, owner⟩ => .dmaWord quiet owner⟩
  case blitPhase =>
    exact pendingStep_iff.trans ⟨fun | .blitPhase quiet owner => ⟨quiet, owner⟩,
      fun ⟨quiet, owner⟩ => .blitPhase quiet owner⟩
  case grantDma =>
    exact pendingStep_iff.trans ⟨fun | .grantDma quiet owner wants => ⟨quiet, owner, wants⟩,
      fun ⟨quiet, owner, wants⟩ => .grantDma quiet owner wants⟩
  case grantBlit =>
    exact pendingStep_iff.trans ⟨fun | .grantBlit quiet owner wants request => ⟨quiet, owner, wants, request⟩,
      fun ⟨quiet, owner, wants, request⟩ => .grantBlit quiet owner wants request⟩
  case idle =>
    exact (cpuEnabled_iff.trans pendingStep_iff).trans
      ⟨fun | .idle quiet owner wants request => ⟨quiet, owner, wants, request⟩,
        fun ⟨quiet, owner, wants, request⟩ => .idle quiet owner wants request⟩

/-! ### The grants -/

/-- R221: a window begins with PRIME where FXSR is 1 and the word is the first of its line. -/
theorem doPrime_iff {b : Blit} : doPrime b = true ↔ b.fxsr = true ∧ b.xCount = b.xReload := by
  simp [doPrime, blitFirst]

/-- Settles O33: the enabled step runs, and the first phase of a window is decided by `doPrime_iff`. -/
theorem grantsOfTheBus : Obligations.GrantsOfTheBus := by
  intro s
  refine ⟨fun h => congrArg Host.Outcome.next (whenStep_enabled h), fun h => ?_⟩
  intro p
  have hphase : (if doPrime s.blit then phasePrime else phaseReadSource) = p := if_congr doPrime_iff rfl rfl
  refine congrArg Host.Outcome.next ((whenStep_enabled h).trans ?_)
  simp only [hphase]
  rfl

/-! ### What a step does with the first waiting command -/

theorem internalStep_some {s : State} {k : InternalStep} (q : List Request) (h : pendingStep s = some k) :
    internalStep s q = exec (stepInstr k) (s.withInbox q) := by
  simp only [internalStep, h]

theorem internalStep_none {s : State} (q : List Request) (h : pendingStep s = none) : internalStep s q = .next s := by
  simp only [internalStep, h]

/-- An internal step that leaves the queue as it is runs at the state itself. -/
theorem internalStep_inbox {s : State} {k : InternalStep} (h : pendingStep s = some k) :
    internalStep s s.inbox = exec (stepInstr k) s :=
  internalStep_some s.inbox h

theorem step_of_inbox_nil {s : State} (hq : s.inbox = []) : step s = internalStep s s.inbox := by
  simp only [step, hq]

section
variable {s : State} {r : Request} {rest : List Request} {i : Instr} {e : DecodeError}

theorem step_taken (hq : s.inbox = r :: rest) (hturn : turnCome s r = true) (hi : decode r.packet = .ok i)
    (hmay : mayTake s (takenWhen i) = true) : step s = exec i (s.withInbox rest) := by
  simp only [step, hq, hturn, hi, hmay, reduceIte]

theorem step_early (hq : s.inbox = r :: rest) (hturn : turnCome s r = false) :
    step s = internalStep s (waited r :: rest) := by
  simp only [step, hq, hturn, Bool.false_eq_true, reduceIte]

theorem step_notTaken (hq : s.inbox = r :: rest) (hturn : turnCome s r = true) (hi : decode r.packet = .ok i)
    (hmay : mayTake s (takenWhen i) = false) : step s = internalStep s s.inbox := by
  simp only [step, hq, hturn, hi, hmay, Bool.false_eq_true, reduceIte]

theorem step_undecodable (hq : s.inbox = r :: rest) (hturn : turnCome s r = true) (he : decode r.packet = .error e) :
    step s = .next (turnAway (s.withInbox rest) .undecodable) := by
  simp only [step, hq, hturn, he, reduceIte]

end

/-- Settles O1: the command is taken. -/
theorem stepRunsTheDecodedCommand : Obligations.StepRunsTheDecodedCommand :=
  fun _ _ _ _ hq hi hturn hmay => step_taken hq hturn hi hmay

/-- Settles O2: no command is taken, so the step is `internalStep` with the queue each case leaves, or the report. -/
theorem stepWithoutACommand : Obligations.StepWithoutACommand := by
  intro s k r rest i e
  refine ⟨?running, ?waiting, ?early, ?notTaken, ?undecodable⟩
  case running => exact fun hq hk => (step_of_inbox_nil hq).trans (internalStep_inbox hk)
  case waiting => exact fun hq hk => (step_of_inbox_nil hq).trans (internalStep_none _ hk)
  case early => exact fun hq hturn hk => (step_early hq hturn).trans (internalStep_some _ hk)
  case notTaken => exact fun hq hturn hi hmay hk => (step_notTaken hq hturn hi hmay).trans (internalStep_inbox hk)
  case undecodable => exact fun hq hturn he => step_undecodable hq hturn he

/-! ### Commands that may not be taken now -/

theorem whenEnvironment_stalled {s : State} {f : State → State} (h : fireEnabled s = true) :
    whenEnvironment s f = reporting s (.turned .notEnabled) :=
  if_pos h

theorem whenStep_stalled {s : State} {k : InternalStep} {f : State → State} (h : pendingStep s ≠ some k) :
    whenStep s k f = reporting s (.turned .notEnabled) :=
  if_neg h

theorem mayTake_environment_eq_false {s : State} : mayTake s .environment = false ↔ fireEnabled s = true := by
  simp [mayTake]

/-- Where `takenWhen` goes by the format, a command that may not be taken is one that waits for the CPU's turn. -/
theorem cpuEnabled_of_notTaken {s : State} {c : Prop} [Decidable c]
    (h : mayTake s (if c then .cpu else .always) = false) : cpuEnabled s = false := by
  split at h
  · exact h
  · cases h

theorem bankRead_stalled {s : State} (b : Bank) (o : Nat) (w : Width) (he : cpuEnabled s = false) :
    bankRead s b o w = reporting s (.turned .notEnabled) :=
  whenCpu_stalled he

theorem bankWrite_stalled {s : State} (b : Bank) (o : Nat) (w : Width) (v : Word) (he : cpuEnabled s = false) :
    bankWrite s b o w v = reporting s (.turned .notEnabled) :=
  whenCpu_stalled he

/-- An access of a register row is a transaction of the CPU, so it waits for the CPU's turn (30_encoding.md R110 b). -/
theorem access16At_stalled {s : State} (b : Bank) (o : Nat) (acc : Acc16) (he : cpuEnabled s = false) :
    access16At s b o acc = reporting s (.turned .notEnabled) := by
  match acc with
  | .rd _ => exact bankRead_stalled _ _ _ he
  | .wr (.hi _) | .wr (.lo _) | .wr (.both _) => exact bankWrite_stalled _ _ _ _ he

theorem access8At_stalled {s : State} (b : Bank) (o : Nat) (acc : Acc8) (he : cpuEnabled s = false) :
    access8At s b o acc = reporting s (.turned .notEnabled) := by
  match acc with
  | .rd => exact bankRead_stalled _ _ _ he
  | .wr _ => exact bankWrite_stalled _ _ _ _ he

/-- A command that may not be taken now changes nothing but the list of reports: those of the CPU and of the
environment by their guards, a register row by the guard of its access. -/
theorem exec_of_mayTake_eq_false {i : Instr} {s : State} (h : mayTake s (takenWhen i) = false) :
    exec i s = .next (reporting s (.turned .notEnabled)) := by
  cases i
  case run | rdB | rdW | wrB | wrW | iack => exact congrArg Host.Outcome.next (whenCpu_stalled h)
  case gpio | int | tai | dbin | dbout =>
    exact congrArg Host.Outcome.next (whenEnvironment_stalled (mayTake_environment_eq_false.mp h))
  case regBlitHalftone | regBlitSrcXinc | regBlitSrcYinc | regBlitSrcAddrH | regBlitSrcAddrL | regBlitEndmask1
    | regBlitEndmask2 | regBlitEndmask3 | regBlitDstXinc | regBlitDstYinc | regBlitDstAddrH | regBlitDstAddrL
    | regBlitXCount | regBlitYCount | regDmaDataCount | regDmaDataController | regDmaMode | regDmaStatus
    | regVidPaletteRead | regVidPaletteWrite =>
    exact congrArg Host.Outcome.next (access16At_stalled _ _ _ (cpuEnabled_of_notTaken h))
  case regBlitHop | regBlitOp | regBlitSkew | regMfpGpip | regMfpAer | regMfpDdr | regMfpIera | regMfpIerb | regMfpIpra
    | regMfpIprb | regMfpIsra | regMfpIsrb | regMfpImra | regMfpImrb | regMfpVr | regMfpTacr | regMfpTbcr | regMfpTcdcr
    | regMfpTadr | regMfpTbdr | regMfpTcdr | regMfpTddr | regDmaAddrHi | regDmaAddrMid | regDmaAddrLo | regVidSync
    | regVidHscroll | regSndSndCtrl | regSndSndMode =>
    exact congrArg Host.Outcome.next (access8At_stalled _ _ _ (cpuEnabled_of_notTaken h))
  case regBlitCtrlRead | regBlitCtrlWrite | regVidShiftModeRead | regVidShiftModeWrite =>
    exact congrArg Host.Outcome.next (access8At_stalled _ _ _ h)
  -- the other commands and calls, and the field codes, come between any two steps
  case schedule id t => cases t <;> cases h
  case requestBus u c => cases u <;> cases h
  all_goals cases h

/-- An internal step that is not the enabled one is turned away. -/
theorem exec_stepInstr_stalled {k : InternalStep} {s : State} (h : pendingStep s ≠ some k) :
    exec (stepInstr k) s = .next (reporting s (.turned .notEnabled)) := by
  cases k <;> exact congrArg Host.Outcome.next (whenStep_stalled h)

/-! ### Commands that are refused -/

section
variable {s : State}

theorem exec_run_zero (he : cpuEnabled s = true) : exec (.run 0) s = .next (reporting s (.turned .runZero)) :=
  congrArg Host.Outcome.next (whenCpu_enabled he)

/-- An odd address is one a word transaction cannot have (20_memory.md R85). -/
theorem isOdd_of_odd {a : Addr} (h : a.toNat % 2 = 1) : isOdd a = true := by
  simp [isOdd, BitVec.getLsbD, Nat.testBit_zero, h]

theorem exec_rdW_odd {a : Addr} (he : cpuEnabled s = true) (ha : a.toNat % 2 = 1) :
    exec (.rdW a) s = .next (reporting s (.turned .oddAddress)) :=
  congrArg Host.Outcome.next ((whenCpu_enabled he).trans (if_pos (isOdd_of_odd ha)))

theorem exec_wrW_odd {a : Addr} (v : Word) (he : cpuEnabled s = true) (ha : a.toNat % 2 = 1) :
    exec (.wrW a v) s = .next (reporting s (.turned .oddAddress)) :=
  congrArg Host.Outcome.next ((whenCpu_enabled he).trans (if_pos (isOdd_of_odd ha)))

theorem exec_iack_wrongLevel {l : BitVec 3} (he : cpuEnabled s = true) (hl : l ≠ s.cfg.mfpIpl) :
    exec (.iack l) s = .next (reporting s (.turned .wrongLevel)) :=
  congrArg Host.Outcome.next ((whenCpu_enabled he).trans (if_neg hl))

theorem exec_gpio_drivenInside {i : BitVec 3} (v : Bool) (hf : fireEnabled s = false)
    (hi : i = s.cfg.blitGpio ∨ i = s.cfg.dmaGpio) : exec (.gpio i v) s = .next (reporting s (.turned .drivenInside)) :=
  congrArg Host.Outcome.next ((whenEnvironment_enabled hf).trans (if_pos hi))

/-- The internal lines are the sources 9 to 12 (43_mfp.md R309). -/
theorem exec_int_notInternalLine {src : BitVec 4} (hf : fireEnabled s = false)
    (hsrc : src.toNat < 9 ∨ 12 < src.toNat) : exec (.int src) s = .next (reporting s (.turned .notInternalLine)) := by
  have hline : ¬ (src = 12 ∨ src = 11 ∨ src = 10 ∨ src = 9) := by
    rintro (rfl | rfl | rfl | rfl) <;> revert hsrc <;> decide
  exact congrArg Host.Outcome.next ((whenEnvironment_enabled hf).trans (if_neg hline))

theorem exec_dbin_wrongDirection (b : Byte) (hf : fireEnabled s = false) (hdir : dmaDir s.dma = true) :
    exec (.dbin b) s = .next (reporting s (.turned .wrongDirection)) :=
  congrArg Host.Outcome.next ((whenEnvironment_enabled hf).trans (if_pos hdir))

theorem exec_dbout_wrongDirection (hf : fireEnabled s = false) (hdir : dmaDir s.dma = false) :
    exec .dbout s = .next (reporting s (.turned .wrongDirection)) :=
  congrArg Host.Outcome.next ((whenEnvironment_enabled hf).trans (if_pos hdir))

theorem exec_restore_dumpShape {d : Dump} (h : d.cfg ≠ s.cfg) :
    exec (.restore (some d)) s = .next (reporting s (.turned .dumpShape)) :=
  if_neg h

end

/-- Settles O10: a command that may not be taken now is turned away by its guard, one that is refused by the test of
its own operand. -/
theorem commandsTurnedAwayHaveNoEffect : Obligations.CommandsTurnedAwayHaveNoEffect := by
  refine ⟨fun s i he h => exec_of_mayTake_eq_false (h ▸ he), fun s => ⟨fun he => ?cpu, fun hf => ?environment,
    fun i hf h => ?notTaken, fun k hk => exec_stepInstr_stalled hk, rfl, fun d hd => exec_restore_dumpShape hd⟩⟩
  case cpu =>
    exact ⟨exec_run_zero he, fun a ha => exec_rdW_odd he ha, fun a v ha => exec_wrW_odd v he ha,
      fun l hl => exec_iack_wrongLevel he hl⟩
  case environment =>
    exact ⟨fun v => exec_gpio_drivenInside v hf (.inl rfl), fun v => exec_gpio_drivenInside v hf (.inr rfl),
      fun src hsrc => exec_int_notInternalLine hf hsrc, fun b hdir => exec_dbin_wrongDirection b hf hdir,
      fun hdir => exec_dbout_wrongDirection hf hdir⟩
  case notTaken => exact exec_of_mayTake_eq_false (h ▸ mayTake_environment_eq_false.mpr hf)

end Sys2Proof.Machine
end

section
/-! The word a window stores (42_blitter.md R225, R226, R228) and the write of CTRL (R209 to R213). -/

namespace Sys2Proof.Machine

/-! ### The word of a window -/

theorem skewedSource_eq (b : Blit) : skewedSource b = (b.srcbuf >>> b.skew.toNat).extractLsb' 0 16 :=
  BitVec.setWidth_eq_extractLsb' (by decide)

/-- A word under a mask, bit by bit. -/
theorem getLsbD_underMask {w i : Nat} (r d m : BitVec w) (hi : i < w) :
    ((r &&& m) ||| (d &&& ~~~m)).getLsbD i = if m.getLsbD i then r.getLsbD i else d.getLsbD i := by
  simp only [BitVec.getLsbD_or, BitVec.getLsbD_and, BitVec.getLsbD_not, hi, decide_true, Bool.true_and]
  cases m.getLsbD i <;> simp

/-- Settles O37: under the mask, the truth table of the operation (`getLsbD_logicOp`) on the halftone operation's word. -/
theorem blitWordCombination : Obligations.BlitWordCombination := by
  intro b src pat x mask i hi
  have hsrc : skewedSource b = src := skewedSource_eq b
  have hpat : halftoneWord b = pat := by rw [halftoneWord, hsrc]
  have hx : hopValue b.hop (skewedSource b) (halftoneWord b) = x := by rw [hsrc, hpat]; rfl
  have hmask : blitMask b = mask := blitMask_eq b
  rw [blitOut, hx, hmask, getLsbD_underMask _ _ _ hi, getLsbD_logicOp _ _ _ i hi]

/-! ### The write of CTRL -/

theorem mfpEvent_withBlit (s : State) (b : Blit) (src : BitVec 4) :
    mfpEvent (s.withBlit b) src = (mfpEvent s src).withBlit b := by
  unfold mfpEvent
  rw [apply_ite (State.withBlit · b), apply_ite (State.withBlit · b)]
  rfl

/-- The move of a line neither reads nor changes the blitter. -/
theorem setGpioBit_withBlit (s : State) (b : Blit) (i : BitVec 3) (v : Bool) :
    setGpioBit (s.withBlit b) i v = (setGpioBit s i v).withBlit b := by
  unfold setGpioBit lineEdge
  simp only
  rw [apply_ite (State.withBlit · b), apply_ite (State.withBlit · b), ← mfpEvent_withBlit]
  rfl

/-- The start of a blit (R211): the request may as well be made before the line rises. -/
theorem blitStart_eq (s : State) : blitStart s = lineMoved { s with blit := { s.blit with
    busy := true, done := false, windows := 0, phase := 0, timeout := s.cfg.blitSlice, request := true } }
    s.cfg.blitGpio true := by
  rw [← setGpioBit_eq, blitStart, requestBlit, (setGpioBit_units _ _ _).1, ← setGpioBit_withBlit]
  rfl

/-- The abort of a blit (R213). -/
theorem blitAbort_eq (s : State) : blitAbort s = lineMoved
    (scheduled { s with blit := { s.blit with busy := false, request := false, phase := 0 } } .blitResume none)
    s.cfg.blitGpio false :=
  setGpioBit_eq _ _ _

/-- The fields a write of CTRL always sets (R209). -/
def ctrlFields (b : Blit) (v : Byte) : Blit :=
  { b with hog := v.getLsbD 6, smudge := v.getLsbD 5, line := v.extractLsb' 0 4 }

/-- What BUSY, old and new, makes of a write of CTRL (R209). -/
theorem writeBlitCtrl_eq (s : State) (v : Byte) :
    let s1 := s.withBlit (ctrlFields s.blit v)
    writeBlitCtrl s v =
      if v.getLsbD 7 then if s.blit.busy then blitRestart s1 else blitStart s1
      else if s.blit.busy then blitAbort s1 else s1 := rfl

/-- Settles O42: the row applies the write rule of CTRL, whose four cases start, restart, abort, or only set fields. -/
theorem writeOfBlitterControl : Obligations.WriteOfBlitterControl := by
  intro s v he b slice wrote
  have hrow : exec (.regBlitCtrlWrite v) s = wrote (writeBlitCtrl s v) :=
    next_congr (byteRegister_wr .ctrl (writeBlitCtrl s) v he rfl rfl fun _ => rfl)
  rw [hrow, writeBlitCtrl_eq]
  refine ⟨fun hv hb => ?start, fun hv hb => ?restart, fun hv hb => ?abort, fun hv hb => ?fields⟩
  all_goals simp only [hv, hb, if_true, Bool.false_eq_true, if_false]
  case start => rw [blitStart_eq]; rfl
  case restart => rfl
  case abort => rw [blitAbort_eq]; rfl
  case fields => rfl

end Sys2Proof.Machine
end

section
/-! What an instruction can do to the interrupt controller, to BUSY and to the sector count: a chain of operations of
the units, whose list `UnitEffect` gives once for all instructions (42_blitter.md R209 to R236, 43_mfp.md R305 to R340,
44_dma.md R381 to R411). -/

namespace Sys2Proof.Machine

/-! ### The operations -/

/-- The configuration, the interrupt controller, BUSY and the sector count. -/
def wiring (s : State) : Config × Mfp × Bool × Byte := (s.cfg, s.mfp, s.blit.busy, s.dma.sectorCount)

/-- One operation of a unit, or a change that leaves the wiring alone. -/
inductive UnitEffect (s : State) : State → Prop
  | elsewhere {t : State} (h : wiring t = wiring s) : UnitEffect s t
  | event (src : BitVec 4) : UnitEffect s (mfpEvent s src)
  | dispatch (src : BitVec 4) : UnitEffect s (takeInterrupt s src)
  | timer (id : TimerId) (x : Timer) : UnitEffect s (setTimer s id x)
  | input (t : TimerAB) (v : Bool) : UnitEffect s (s.withMfp (putInputLevel s.mfp t v))
  | freeLine (i : BitVec 3) (v : Bool) (hfree : ¬ (i = s.cfg.blitGpio ∨ i = s.cfg.dmaGpio)) :
    UnitEffect s (setGpioBit s i v)
  | register (r : Reg) (v : BitVec 32) : UnitEffect s (regWrite s r v)
  | blitEnds : UnitEffect s (blitTerminate s)
  | blitFailsSafe : UnitEffect s (blitToIdle s)
  | burstEnds : UnitEffect s (countBurst s)
  | reset : UnitEffect s (resetUnits s)

/-- A chain of such operations. -/
abbrev UnitEffects : State → State → Prop := Relation.ReflTransGen UnitEffect

theorem UnitEffects.elsewhere {s t : State} (h : wiring t = wiring s) : UnitEffects s t := .single (.elsewhere h)

theorem UnitEffects.trans {s t u : State} (h : UnitEffects s t) (h' : UnitEffects t u) : UnitEffects s u :=
  Relation.ReflTransGen.trans h h'

/-- Both arms of a choice. -/
theorem UnitEffects.ite {s a b : State} {c : Prop} [Decidable c] (ha : UnitEffects s a) (hb : UnitEffects s b) :
    UnitEffects s (if c then a else b) := by
  split
  · exact ha
  · exact hb

theorem UnitEffects.whenCpu {s : State} {f : State → State} (h : UnitEffects s (f s)) : UnitEffects s (whenCpu s f) :=
  .ite h (.elsewhere rfl)

theorem UnitEffects.whenEnvironment {s : State} {f : State → State} (h : UnitEffects s (f s)) :
    UnitEffects s (whenEnvironment s f) :=
  .ite (.elsewhere rfl) h

theorem UnitEffects.whenStep {s : State} {k : InternalStep} {f : State → State} (h : UnitEffects s (f s)) :
    UnitEffects s (whenStep s k f) :=
  .ite h (.elsewhere rfl)

/-! ### What leaves the wiring alone -/

theorem wiring_ite {s a b : State} {c : Prop} [Decidable c] (ha : wiring a = wiring s) (hb : wiring b = wiring s) :
    wiring (if c then a else b) = wiring s := by
  split
  · exact ha
  · exact hb

theorem wiring_withBlit {s : State} {b : Blit} (h : b.busy = s.blit.busy) : wiring (s.withBlit b) = wiring s :=
  congrArg (fun x : Bool => (s.cfg, s.mfp, x, s.dma.sectorCount)) h

theorem wiring_toPhase (s : State) (p : BitVec 3) : wiring (toPhase s p) = wiring s := wiring_withBlit rfl

theorem wiring_requestBlit (s : State) : wiring (requestBlit s) = wiring s := wiring_withBlit rfl

theorem wiring_countTransaction (s : State) : wiring (countTransaction s) = wiring s := wiring_withBlit rfl

/-- A yield too leaves BUSY as it is (R232, R233). -/
theorem wiring_nextWindow (s : State) : wiring (nextWindow s) = wiring s :=
  wiring_ite (wiring_requestBlit s) (wiring_withBlit (b := { s.blit with request := false }) rfl)

theorem wiring_withDma {s : State} {d : Dma} (h : d.sectorCount = s.dma.sectorCount) :
    wiring (s.withDma d) = wiring s :=
  congrArg (fun n : Byte => (s.cfg, s.mfp, s.blit.busy, n)) h

theorem wiring_regRead (s : State) (r : Reg) : wiring (regRead s r).2 = wiring s := by
  cases r
  case data =>
    simp only [regRead, readDmaData, drawCtrl]
    split
    · rfl
    · split <;> rfl
  all_goals rfl

theorem wiring_regReadByte (s : State) (b : Bank) (o : Nat) : wiring (regReadByte s b o).2 = wiring s := by
  unfold regReadByte
  split
  · rfl
  · exact wiring_regRead _ _

theorem wiring_regReadWord (s : State) (b : Bank) (o : Nat) : wiring (regReadWord s b o).2 = wiring s := by
  have two := (wiring_regReadByte (regReadByte s b o).2 b (o + 1)).trans (wiring_regReadByte s b o)
  unfold regReadWord
  split
  · split
    · exact wiring_regRead _ _
    · exact two
  · exact two

/-- A transaction's latches, record and ticks. -/
theorem wiring_transacted (t : State) (u : Master) (a : Addr) (v : Word) (w : Width) (d : Dir) (ticks : Nat) :
    wiring (transacted t u a v w d ticks) = wiring t := rfl

theorem wiring_txRead (s : State) (u : Master) (a p : Addr) (r : Region) (w : Width) :
    wiring (txRead s u a p r w).2 = wiring s := by
  cases r with
  | bank b o =>
    cases w with
    | byte => rw [(txRead_bank s u a p b o).1, wiring_transacted, wiring_regReadByte]
    | word => rw [(txRead_bank s u a p b o).2, wiring_transacted, wiring_regReadWord]
  | ram =>
    cases w with
    | byte => rw [(txRead_ram s u a p).1, wiring_transacted]
    | word => rw [(txRead_ram s u a p).2, wiring_transacted]
  | ext =>
    cases w with
    | byte => rw [txRead_ext_byte]; rfl
    | word => rw [txRead_ext]; rfl
  | none => rw [txRead_none]; rfl

theorem wiring_busRead (s : State) (u : Master) (a : Addr) (w : Width) : wiring (busRead s u a w).2 = wiring s :=
  wiring_txRead _ _ _ _ _ _

theorem wiring_reportRead (w : Width) (x : Option Word × State) : wiring (reportRead w x) = wiring x.2 := by
  obtain ⟨_ | v, t⟩ := x <;> rfl

theorem wiring_latchAndArm (s : State) (m : VideoMode) (t : Nat) : wiring (latchAndArm s m t) = wiring s := by
  simp only [latchAndArm]
  split <;> rfl

theorem wiring_videoReset (s : State) : wiring (videoReset s) = wiring s := wiring_latchAndArm (s.withVid _) _ _

theorem wiring_drawSample (s : State) : wiring (drawSample s).2 = wiring s := by
  unfold drawSample
  split <;> rfl

theorem wiring_pushSample (s : State) (w : Word) : wiring (pushSample s w) = wiring s := wiring_ite rfl rfl

theorem wiring_fillFifo (n : Nat) (s : State) : wiring (fillFifo n s) = wiring s := by
  induction n generalizing s with
  | zero => rfl
  | succ n ih => exact wiring_ite ((ih _).trans ((wiring_pushSample _ _).trans (wiring_drawSample s))) rfl

theorem wiring_sndDrain (s : State) (t : Nat) : wiring (sndDrain s t) = wiring s := by
  unfold sndDrain
  split <;> rfl

/-! The buffers of the DMA engine (44_dma.md R396 to R405) -/

theorem trySwap_sectorCount (d : Dma) : (trySwap d).sectorCount = d.sectorCount := by
  obtain ⟨_, _, h⟩ | ⟨_, h⟩ := trySwap_cases d <;> rw [h]

theorem swapIfDone_sectorCount (d : Dma) : (swapIfDone d).sectorCount = d.sectorCount := by
  unfold swapIfDone
  split
  · exact trySwap_sectorCount d
  · rfl

theorem putActiveBuf_sectorCount (d : Dma) (b : Vector Byte 16) : (putActiveBuf d b).sectorCount = d.sectorCount := by
  unfold putActiveBuf
  split <;> rfl

theorem wiring_diskIn (s : State) (b : Byte) : wiring (diskIn s b) = wiring s :=
  wiring_ite rfl (wiring_ite rfl (wiring_ite rfl
    (wiring_withDma ((swapIfDone_sectorCount _).trans (putActiveBuf_sectorCount s.dma _)))))

theorem wiring_diskOut (s : State) : wiring (diskOut s) = wiring s :=
  wiring_ite rfl (wiring_ite rfl (wiring_withDma (swapIfDone_sectorCount { s.dma with idx := s.dma.idx + 1 })))

/-! ### What the rules of the units do -/

theorem unitEffects_setMode (s : State) (id : TimerId) (m : BitVec 4) : UnitEffects s (setMode s id m) := by
  have set (x : Timer) : UnitEffects s (setTimer s id x) := .single (.timer id x)
  have armed (x : Timer) (due : Option Nat) : UnitEffects s (schedule (setTimer s id x) (timerSlot id) due) :=
    (set x).trans (.elsewhere rfl)
  obtain ⟨_, _, _, h⟩ | ⟨_, _, _, h⟩ | ⟨_, h⟩ := setMode_cases s id m
  · exact h ▸ set _
  · exact h ▸ armed _ _
  · exact h ▸ armed _ _

theorem unitEffects_underflow (s : State) (id : TimerId) (t : Nat) : UnitEffects s (underflow s id t) := by
  have occurs : UnitEffects s (mfpEvent s (timerSource id)) := .single (.event _)
  refine occurs.trans (.elsewhere ?_)
  simp only [underflow]
  split <;> rfl

theorem unitEffects_timerInput (s : State) (t : TimerAB) (v : Bool) : UnitEffects s (timerInput s t v) := by
  have moved : UnitEffects s (s.withMfp (putInputLevel s.mfp t v)) := .single (.input t v)
  have set (u : State) (x : Timer) : UnitEffects u (setTimer u (timerOfAB t) x) := .single (.timer _ x)
  have occurs (u : State) : UnitEffects u (mfpEvent u (timerSource (timerOfAB t))) := .single (.event _)
  exact .ite (.ite (moved.trans ((occurs _).trans (set _ _))) (moved.trans (set _ _))) moved

theorem unitEffects_regWriteByte (s : State) (b : Bank) (o : Nat) (v : Byte) :
    UnitEffects s (regWriteByte s b o v) := by
  unfold regWriteByte
  split
  · exact .refl
  · exact .ite (.single (.register _ _))
      ((UnitEffects.elsewhere (wiring_regRead s _)).trans (.single (.register _ _)))

theorem unitEffects_regWriteWord (s : State) (b : Bank) (o : Nat) (v : Word) :
    UnitEffects s (regWriteWord s b o v) := by
  have two := (unitEffects_regWriteByte s b o (hiByte v)).trans
    (unitEffects_regWriteByte (regWriteByte s b o (hiByte v)) b (o + 1) (loByte v))
  unfold regWriteWord
  split
  · exact .ite (.ite (.single (.register _ _))
      ((UnitEffects.elsewhere (wiring_regRead s _)).trans (.single (.register _ _)))) two
  · exact two

/-- Only a write of a register bank can do more than leave the wiring alone. -/
theorem unitEffects_txWrite (s : State) (u : Master) (a p : Addr) (r : Region) (w : Width) (v : Word) :
    UnitEffects s (txWrite s u a p r w v) := by
  cases r with
  | bank b o =>
    cases w with
    | byte => exact (txWrite_bank s u a p b o v).1 ▸ (unitEffects_regWriteByte s b o _).trans (.elsewhere rfl)
    | word => exact (txWrite_bank s u a p b o v).2 ▸ (unitEffects_regWriteWord s b o v).trans (.elsewhere rfl)
  | ram =>
    cases w with
    | byte => exact (txWrite_ram s u a p v).1 ▸ .elsewhere rfl
    | word => exact (txWrite_ram s u a p v).2 ▸ .elsewhere rfl
  | ext => exact txWrite_ext s u a p w v ▸ .elsewhere rfl
  | none => exact txWrite_none s u a p w v ▸ .elsewhere rfl

theorem unitEffects_busWrite (s : State) (u : Master) (a : Addr) (w : Width) (v : Word) :
    UnitEffects s (busWrite s u a w v) :=
  unitEffects_txWrite _ _ _ _ _ _ _

theorem unitEffects_cpuRead (s : State) (a p : Addr) (r : Region) (w : Width) :
    UnitEffects s (reportRead w (txRead s .cpu a p r w)) :=
  .elsewhere ((wiring_reportRead w _).trans (wiring_txRead s .cpu a p r w))

theorem RowEffect.unitEffects {s t : State} (h : RowEffect s t) : UnitEffects s t := by
  have read (b : Bank) (o : Nat) (w : Width) : UnitEffects s (bankRead s b o w) :=
    .whenCpu (unitEffects_cpuRead s _ _ _ w)
  have write (b : Bank) (o : Nat) (w : Width) (v : Word) : UnitEffects s (bankWrite s b o w v) :=
    .whenCpu (unitEffects_txWrite s .cpu _ _ _ w v)
  cases h with
  | access16 b o acc =>
    match acc with
    | .rd _ => exact read _ _ _
    | .wr (.hi _) | .wr (.lo _) | .wr (.both _) => exact write _ _ _ _
  | access8 b o acc =>
    match acc with
    | .rd => exact read _ _ _
    | .wr _ => exact write _ _ _ _
  | write r v => exact .single (.register r v)
  | mode id m => exact unitEffects_setMode s id m

/-! The callbacks and the resets -/

theorem unitEffects_callback (s : State) (id : SlotId) (t : Nat) : UnitEffects s (callback s id t) := by
  have shown (v : Vid) : UnitEffects s (s.withVid v) := .elsewhere rfl
  cases id with
  | ta | tb | tc | td => exact unitEffects_underflow _ _ _
  | blitResume => exact .ite (.elsewhere rfl) .refl
  | vidLine => exact (shown _).trans (.elsewhere (wiring_latchAndArm _ _ _))
  | vidDeOn | vidDeOff => exact (shown _).trans (unitEffects_timerInput _ _ _)
  | vidHb => exact .ite (.elsewhere (wiring_fillFifo 4 s)) .refl
  | sndDrain => exact .elsewhere (wiring_sndDrain s t)

theorem unitEffects_fireOne (s : State) : UnitEffects s (fireOne s) := by
  have cleared (id : SlotId) : UnitEffects s (clearSlot s id) := .elsewhere rfl
  unfold fireOne fireSlot
  split
  · split
    · exact (cleared _).trans (unitEffects_callback _ _ _)
    · exact .refl
  · exact .refl

theorem unitEffects_advanceLoop {n : Nat} {s t : State} (h : advanceLoop n s = some t) : UnitEffects s t := by
  induction n generalizing s with
  | zero =>
    unfold advanceLoop at h
    split at h
    · cases h
    · exact Option.some.inj h ▸ .refl
  | succ n ih =>
    unfold advanceLoop at h
    split at h
    · exact (unitEffects_fireOne s).trans (ih h)
    · exact Option.some.inj h ▸ .refl

theorem unitEffects_resetCommon (s : State) : UnitEffects s (resetCommon s) := by
  have units : UnitEffects s (resetUnits s) := .single .reset
  exact units.trans (.elsewhere (wiring_videoReset _))

theorem unitEffects_coldReset (s : State) : UnitEffects s (coldReset s) := by
  have anew (x : Sched) (m : Memory) (e : Env) : UnitEffects s { s with sched := x, mem := m, env := e } :=
    .elsewhere rfl
  exact (anew _ _ _).trans (unitEffects_resetCommon _)

/-! The steps of the blitter and of the DMA engine -/

theorem unitEffects_lineEnd (s : State) : UnitEffects s (lineEnd s) := by
  have counted (x y : Word) (l : BitVec 4) :
      UnitEffects s (s.withBlit { s.blit with xCount := x, line := l, yCount := y }) := .elsewhere (wiring_withBlit rfl)
  exact .ite ((counted _ _ _).trans (.single .blitEnds)) ((counted _ _ _).trans (.elsewhere (wiring_nextWindow _)))

theorem unitEffects_blitWriteDest (s : State) : UnitEffects s (blitWriteDest s) := by
  refine (unitEffects_busWrite s .blit s.blit.dstAddr .word (blitOut s.blit)).trans ?_
  unfold blitWriteDest
  generalize busWrite s .blit s.blit.dstAddr .word (blitOut s.blit) = t
  have released (a : Addr) (x : Word) : UnitEffects t ((toPhase ((countTransaction t).withBlit
      { (countTransaction t).blit with dstAddr := a, xCount := x }) phaseIdle).withOwner .cpu) :=
    .elsewhere ((wiring_toPhase _ _).trans ((wiring_withBlit rfl).trans (wiring_countTransaction t)))
  exact UnitEffects.ite ((released _ _).trans (unitEffects_lineEnd _))
    ((released _ _).trans (.elsewhere (wiring_nextWindow _)))

theorem wiring_blitRead (s : State) (a : Addr) : wiring (blitRead s a).2 = wiring s :=
  (wiring_countTransaction _).trans (wiring_busRead s .blit a .word)

/-- A reading phase changes no more of the blitter than the shift buffer, an address, the latch and the phase. -/
theorem wiring_readingPhase {s : State} {b : Blit} (p : BitVec 3) (h : b.busy = s.blit.busy) :
    wiring (toPhase (s.withBlit b) p) = wiring s :=
  (wiring_toPhase _ p).trans (wiring_withBlit h)

theorem wiring_blitPrime (s : State) : wiring (blitPrime s) = wiring s := by
  rw [← wiring_blitRead s s.blit.srcAddr, blitPrime]
  generalize blitRead s s.blit.srcAddr = read
  exact wiring_readingPhase _ rfl

theorem wiring_blitReadSource (s : State) : wiring (blitReadSource s) = wiring s := by
  rw [← wiring_blitRead s s.blit.srcAddr, blitReadSource]
  generalize blitRead s s.blit.srcAddr = read
  exact wiring_readingPhase _ rfl

theorem wiring_blitReadDest (s : State) : wiring (blitReadDest s) = wiring s := by
  rw [← wiring_blitRead s s.blit.dstAddr, blitReadDest]
  generalize blitRead s s.blit.dstAddr = read
  exact wiring_readingPhase _ rfl

theorem unitEffects_blitPhaseStep (s : State) : UnitEffects s (blitPhaseStep s) :=
  .ite (.elsewhere (wiring_blitPrime s)) (.ite (.elsewhere (wiring_blitReadSource s))
    (.ite (.elsewhere (wiring_blitReadDest s)) (.ite (unitEffects_blitWriteDest s) (.single .blitFailsSafe))))

theorem unitEffects_endBurst (s : State) : UnitEffects s (endBurst s) := by
  have counted : UnitEffects s (countBurst s) := .single .burstEnds
  have released (t : State) (e : TraceRec) : UnitEffects t ((emitTrace t e).withOwner .cpu) := .elsewhere rfl
  have swapped (t : State) : UnitEffects t (t.withDma (trySwap t.dma)) :=
    .elsewhere (wiring_withDma (trySwap_sectorCount _))
  exact counted.trans ((released _ _).trans (swapped _))

theorem unitEffects_afterWord (s : State) : UnitEffects s (afterWord s) := by
  have moved (a : Addr) (b : Bus) : UnitEffects s ((s.withDma { s.dma with addr := a }).withBus b) := .elsewhere rfl
  exact .ite ((moved _ _).trans (unitEffects_endBurst _)) (moved _ _)

theorem unitEffects_dmaWordStep (s : State) : UnitEffects s (dmaWordStep s) := by
  have fetched : UnitEffects s (busRead s .dma s.dma.addr .word).2 := .elsewhere (wiring_busRead _ _ _ _)
  have placed (t : State) (j : Nat) (w : Word) : UnitEffects t (t.withDma (placeWord t.dma j w)) :=
    .elsewhere (wiring_withDma (placeWord_eq t.dma j w ▸ rfl))
  exact .ite (fetched.trans ((placed _ _ _).trans (unitEffects_afterWord _)))
    ((unitEffects_busWrite s .dma s.dma.addr .word _).trans (unitEffects_afterWord _))

/-! ### The instructions -/

theorem unitEffects_execIack {l : BitVec 3} {s t : State} (h : execIack l s = .next t) : UnitEffects s t := by
  refine Host.Outcome.next.inj h ▸ .whenCpu (.ite ?_ (.elsewhere rfl))
  split
  · exact .single (.dispatch _)
  · exact .elsewhere rfl

theorem unitEffects_execAdvance {s t : State} (h : execAdvance s = .next t) : UnitEffects s t := by
  unfold execAdvance at h
  split at h
  · next hloop => exact Host.Outcome.next.inj h ▸ unitEffects_advanceLoop hloop
  · cases h

/-- Every instruction but RESTORE, and the narrow call SET_GPIO_BIT, which can move any line. -/
theorem exec_unitEffects (i : Instr) (s t : State) (h : exec i s = .next t) (hload : ∀ d, i ≠ .restore d)
    (hline : ∀ n v, i ≠ .setGpioBit n v) : UnitEffects s t := by
  cases hrow : isCommandOrCall i with
  | false =>
    obtain ⟨t', ht', effect⟩ := exec_row i s hrow
    obtain rfl : t' = t := Host.Outcome.next.inj (ht'.symm.trans h)
    exact effect.unitEffects
  | true =>
    cases i
    case restore d => exact absurd rfl (hload d)
    case setGpioBit n v => exact absurd rfl (hline n v)
    case iack => exact unitEffects_execIack h
    case advance => exact unitEffects_execAdvance h
    case requestBus u _ => cases u <;> exact Host.Outcome.next.inj h ▸ .elsewhere rfl
    case run => exact Host.Outcome.next.inj h ▸ .whenCpu (.ite (.elsewhere rfl) (.elsewhere rfl))
    case rdB => exact Host.Outcome.next.inj h ▸ .whenCpu (unitEffects_cpuRead _ _ _ _ _)
    case rdW => exact Host.Outcome.next.inj h ▸ .whenCpu (.ite (.elsewhere rfl) (unitEffects_cpuRead _ _ _ _ _))
    case wrB => exact Host.Outcome.next.inj h ▸ .whenCpu (unitEffects_busWrite _ _ _ _ _)
    case wrW => exact Host.Outcome.next.inj h ▸ .whenCpu (.ite (.elsewhere rfl) (unitEffects_busWrite _ _ _ _ _))
    case gpio n v =>
      refine Host.Outcome.next.inj h ▸ .whenEnvironment ?_
      split
      · exact .elsewhere rfl
      · next hfree => exact .single (.freeLine n v hfree)
    case int => exact Host.Outcome.next.inj h ▸ .whenEnvironment (.ite (.single (.event _)) (.elsewhere rfl))
    case tai => exact Host.Outcome.next.inj h ▸ .whenEnvironment (unitEffects_timerInput _ _ _)
    case dbin => exact Host.Outcome.next.inj h ▸ .whenEnvironment (.elsewhere (wiring_diskIn _ _))
    case dbout => exact Host.Outcome.next.inj h ▸ .whenEnvironment (.elsewhere (wiring_diskOut _))
    case resetC => exact Host.Outcome.next.inj h ▸ unitEffects_coldReset s
    case resetW => exact Host.Outcome.next.inj h ▸ unitEffects_resetCommon s
    case pushSample => exact Host.Outcome.next.inj h ▸ .elsewhere (wiring_pushSample _ _)
    case fire => exact Host.Outcome.next.inj h ▸ .whenStep (unitEffects_fireOne s)
    case blitPhase => exact Host.Outcome.next.inj h ▸ .whenStep (unitEffects_blitPhaseStep s)
    case dmaWord => exact Host.Outcome.next.inj h ▸ .whenStep (unitEffects_dmaWordStep s)
    case grantDma | grantBlit => exact Host.Outcome.next.inj h ▸ .whenStep (.elsewhere rfl)
    case snap | schedule | idle => exact Host.Outcome.next.inj h ▸ .elsewhere rfl
    -- the rows
    all_goals cases hrow

end Sys2Proof.Machine
end

section
/-! The blitter's line shows BUSY and the DMA engine's line shows that sectors remain (42_blitter.md R214, 44_dma.md
R411): each operation of the units keeps both, and so does every instruction made of them. -/

namespace Sys2Proof.Machine

/-! ### The levels of the lines -/

theorem getLsbD_putBit {w i : Nat} (v : BitVec w) (hi : i < w) (b : Bool) (j : Nat) :
    (putBit v i b).getLsbD j = if j = i then b else v.getLsbD j := by
  have hbit : (1#w <<< i).getLsbD j = decide (j = i) := by
    rw [← BitVec.twoPow_eq, BitVec.getLsbD_twoPow, decide_eq_true hi, Bool.true_and]
    exact decide_eq_decide.mpr eq_comm
  have hin : v.getLsbD j = true → j < w := BitVec.lt_of_getLsbD
  cases b with
  | true =>
    rw [putBit, if_pos rfl, BitVec.getLsbD_or, hbit]
    by_cases h : j = i <;> simp [h]
  | false =>
    rw [putBit, if_neg Bool.false_ne_true, BitVec.getLsbD_and, BitVec.getLsbD_not, hbit]
    by_cases h : j = i
    · simp [h]
    · simpa [h] using hin

/-- The lines of the interrupt controller are the bits of a byte. -/
theorem getLsbD_putBit_line (x : Byte) (i j : BitVec 3) (v : Bool) :
    (putBit x i.toNat v).getLsbD j.toNat = if j = i then v else x.getLsbD j.toNat := by
  rw [getLsbD_putBit x i.isLt]
  simp only [BitVec.toNat_inj]

/-- The level of an interrupt line (43_mfp.md R300). -/
def lineLevel (m : Mfp) (i : BitVec 3) : Bool := m.ext.getLsbD i.toNat

theorem lineLevel_of_putBit {m m' : Mfp} {i : BitVec 3} {v : Bool} (h : m'.ext = putBit m.ext i.toNat v)
    (j : BitVec 3) : lineLevel m' j = if j = i then v else lineLevel m j := by
  rw [lineLevel, h, getLsbD_putBit_line, lineLevel]

/-! ### What keeps the lines -/

/-- The blitter's line is BUSY (R214). -/
def BlitLineFollows (s : State) : Prop := lineLevel s.mfp s.cfg.blitGpio = s.blit.busy

/-- The DMA engine's line says that sectors remain (R411). -/
def DmaLineFollows (s : State) : Prop := lineLevel s.mfp s.cfg.dmaGpio = (s.dma.sectorCount != 0)

/-- Under the configuration of `s`, whose two driven lines differ, each line follows its unit in `t` if it did in
`s`. -/
structure KeepsLines (s t : State) : Prop where
  cfg : t.cfg = s.cfg
  blit : s.cfg.blitGpio ≠ s.cfg.dmaGpio → BlitLineFollows s → BlitLineFollows t
  dma : s.cfg.blitGpio ≠ s.cfg.dmaGpio → DmaLineFollows s → DmaLineFollows t

theorem KeepsLines.refl (s : State) : KeepsLines s s := ⟨rfl, fun _ h => h, fun _ h => h⟩

theorem KeepsLines.trans {s t u : State} (h : KeepsLines s t) (h' : KeepsLines t u) : KeepsLines s u where
  cfg := h'.cfg.trans h.cfg
  blit := fun hne hs => h'.blit (h.cfg ▸ hne) (h.blit hne hs)
  dma := fun hne hs => h'.dma (h.cfg ▸ hne) (h.dma hne hs)

theorem KeepsLines.ite {s a b : State} {c : Prop} [Decidable c] (ha : KeepsLines s a) (hb : KeepsLines s b) :
    KeepsLines s (if c then a else b) := by
  split
  · exact ha
  · exact hb

/-- Neither line nor unit changes, whatever else does. -/
theorem KeepsLines.of_eq {s t : State} (hcfg : t.cfg = s.cfg) (hext : t.mfp.ext = s.mfp.ext)
    (hbusy : t.blit.busy = s.blit.busy) (hcount : t.dma.sectorCount = s.dma.sectorCount) : KeepsLines s t where
  cfg := hcfg
  blit := fun _ h => by simpa only [BlitLineFollows, lineLevel, hcfg, hext, hbusy] using h
  dma := fun _ h => by simpa only [DmaLineFollows, lineLevel, hcfg, hext, hcount] using h

/-- The blitter moves its line to the new BUSY. -/
theorem KeepsLines.of_blitLine {s t : State} (hcfg : t.cfg = s.cfg)
    (hext : t.mfp.ext = putBit s.mfp.ext s.cfg.blitGpio.toNat t.blit.busy)
    (hcount : t.dma.sectorCount = s.dma.sectorCount) : KeepsLines s t where
  cfg := hcfg
  blit := fun _ _ => by rw [BlitLineFollows, hcfg, lineLevel_of_putBit hext, if_pos rfl]
  dma := fun hne h => by rw [DmaLineFollows, hcfg, lineLevel_of_putBit hext, if_neg hne.symm, hcount]; exact h

/-- The DMA engine moves its line as the new sector count says. -/
theorem KeepsLines.of_dmaLine {s t : State} (hcfg : t.cfg = s.cfg)
    (hext : t.mfp.ext = putBit s.mfp.ext s.cfg.dmaGpio.toNat (t.dma.sectorCount != 0))
    (hbusy : t.blit.busy = s.blit.busy) : KeepsLines s t where
  cfg := hcfg
  blit := fun hne h => by rw [BlitLineFollows, hcfg, lineLevel_of_putBit hext, if_neg hne, hbusy]; exact h
  dma := fun _ _ => by rw [DmaLineFollows, hcfg, lineLevel_of_putBit hext, if_pos rfl]

/-! ### Each operation keeps them -/

theorem setMode_keepsLines (s : State) (id : TimerId) (m : BitVec 4) : KeepsLines s (setMode s id m) := by
  have set (x : Timer) : KeepsLines s (setTimer s id x) := by cases id <;> exact .of_eq rfl rfl rfl rfl
  have armed {t : State} (h : KeepsLines s t) (x : SlotId) (due : Option Nat) : KeepsLines s (schedule t x due) :=
    h.trans (.of_eq rfl rfl rfl rfl)
  obtain ⟨_, _, _, h⟩ | ⟨_, _, _, h⟩ | ⟨_, h⟩ := setMode_cases s id m
  · exact h ▸ set _
  · exact h ▸ armed (set _) _ _
  · exact h ▸ armed (set _) _ _

/-- The blitter moves its line after a change of BUSY (R211, R213, R231). -/
theorem blitLine_keepsLines {s u : State} (hcfg : u.cfg = s.cfg) (hext : u.mfp.ext = s.mfp.ext)
    (hcount : u.dma.sectorCount = s.dma.sectorCount) :
    KeepsLines s (setGpioBit u u.cfg.blitGpio u.blit.busy) := by
  obtain ⟨p, tr, h⟩ := setGpioBit_frame u u.cfg.blitGpio u.blit.busy
  exact h ▸ .of_blitLine hcfg (by rw [← hext, ← hcfg]) hcount

/-- The DMA engine moves its line after a change of its sector count (R382, R384, R404). -/
theorem lineUpdate_keepsLines {s u : State} (hcfg : u.cfg = s.cfg) (hext : u.mfp.ext = s.mfp.ext)
    (hbusy : u.blit.busy = s.blit.busy) : KeepsLines s (lineUpdate u) := by
  obtain ⟨p, tr, h⟩ := setGpioBit_frame u u.cfg.dmaGpio (u.dma.sectorCount != 0)
  rw [lineUpdate, h]
  exact .of_dmaLine hcfg (by rw [← hext, ← hcfg]) hbusy

theorem blitStart_keepsLines (s : State) : KeepsLines s (blitStart s) := by
  have requested (t : State) : KeepsLines t (requestBlit t) := .of_eq rfl rfl rfl rfl
  have raised : KeepsLines s (setGpioBit (s.withBlit { s.blit with
      busy := true, done := false, windows := 0, phase := phaseIdle, timeout := s.cfg.blitSlice })
      s.cfg.blitGpio true) :=
    blitLine_keepsLines (u := s.withBlit _) rfl rfl rfl
  exact raised.trans (requested _)

theorem blitAbort_keepsLines (s : State) : KeepsLines s (blitAbort s) :=
  blitLine_keepsLines (u := schedule (s.withBlit { s.blit with busy := false, request := false, phase := phaseIdle })
    .blitResume none) rfl rfl rfl

theorem writeBlitCtrl_keepsLines (s : State) (v : Byte) : KeepsLines s (writeBlitCtrl s v) := by
  have fields : KeepsLines s (s.withBlit (ctrlFields s.blit v)) := .of_eq rfl rfl rfl rfl
  have restart (t : State) : KeepsLines t (blitRestart t) := .of_eq rfl rfl rfl rfl
  rw [writeBlitCtrl_eq]
  exact .ite (.ite (fields.trans (restart _)) (fields.trans (blitStart_keepsLines _)))
    (.ite (fields.trans (blitAbort_keepsLines _)) fields)

theorem regWrite_keepsLines (s : State) (r : Reg) (v : BitVec 32) : KeepsLines s (regWrite s r v) := by
  cases r <;> simp only [regWrite]
  case ctrl => exact writeBlitCtrl_keepsLines _ _
  case tacr | tbcr => exact setMode_keepsLines _ _ _
  case tcdcr => exact (setMode_keepsLines _ _ _).trans (setMode_keepsLines _ _ _)
  case data => exact .ite (lineUpdate_keepsLines rfl rfl rfl) (.of_eq rfl rfl rfl rfl)
  case mode => exact .ite (.of_eq rfl rfl rfl rfl) (lineUpdate_keepsLines rfl rfl rfl)
  case tadr | tbdr | tcdr | tddr => exact .ite (.of_eq rfl rfl rfl rfl) (.of_eq rfl rfl rfl rfl)
  case sndCtrl => exact .ite (.of_eq rfl rfl rfl rfl) (.ite (.of_eq rfl rfl rfl rfl) (.of_eq rfl rfl rfl rfl))
  all_goals exact .of_eq rfl rfl rfl rfl

/-- A line that no unit drives moves. -/
theorem freeLine_keepsLines {s : State} {i : BitVec 3} (v : Bool)
    (hfree : ¬ (i = s.cfg.blitGpio ∨ i = s.cfg.dmaGpio)) : KeepsLines s (setGpioBit s i v) := by
  obtain ⟨hblit, hdma⟩ := not_or.mp hfree
  obtain ⟨p, tr, h⟩ := setGpioBit_frame s i v
  have level (j : BitVec 3) (hj : i ≠ j) : lineLevel (setGpioBit s i v).mfp j = lineLevel s.mfp j :=
    (lineLevel_of_putBit (congrArg (·.mfp.ext) h) j).trans (if_neg hj.symm)
  have hcfg := setGpioBit_cfg s i v
  obtain ⟨hb, hd, _⟩ := setGpioBit_units s i v
  refine ⟨hcfg, fun _ hs => ?_, fun _ hs => ?_⟩
  · rw [BlitLineFollows, hcfg, level _ hblit, hb]
    exact hs
  · rw [DmaLineFollows, hcfg, level _ hdma, hd]
    exact hs

/-- At the end of a sector the line follows the count (R404, R411). -/
theorem countBurst_keepsLines (s : State) : KeepsLines s (countBurst s) :=
  .ite (lineUpdate_keepsLines rfl rfl rfl) (.of_eq rfl rfl rfl rfl)

/-- The recovery of R236 sets the line without an edge. -/
theorem blitToIdle_keepsLines (s : State) : KeepsLines s (blitToIdle s) := by
  simp only [blitToIdle]
  split <;> exact .of_blitLine rfl rfl rfl

/-- A reset clears both lines, BUSY and the sector count (70_reset_and_hazards.md R522). -/
theorem resetUnits_keepsLines (s : State) : KeepsLines s (resetUnits s) := by
  have level (j : BitVec 3) : lineLevel (Mfp.reset s.cfg) j =
      if j = s.cfg.dmaGpio then false else if j = s.cfg.blitGpio then false else s.cfg.extReset.getLsbD j.toNat := by
    have hext : extAtReset s.cfg =
        putBit (putBit s.cfg.extReset s.cfg.blitGpio.toNat false) s.cfg.dmaGpio.toNat false := rfl
    rw [lineLevel, Mfp.reset, hext, getLsbD_putBit_line, getLsbD_putBit_line]
  refine ⟨rfl, fun hne _ => ?_, fun _ _ => ?_⟩
  · exact (level s.cfg.blitGpio).trans ((if_neg hne).trans (if_pos rfl))
  · exact (level s.cfg.dmaGpio).trans (if_pos rfl)

theorem UnitEffect.keepsLines {s t : State} (h : UnitEffect s t) : KeepsLines s t := by
  cases h with
  | elsewhere h =>
    simp only [wiring, Prod.mk.injEq] at h
    obtain ⟨hcfg, hmfp, hbusy, hcount⟩ := h
    exact .of_eq hcfg (congrArg Mfp.ext hmfp) hbusy hcount
  | event src =>
    obtain ⟨p, tr, h⟩ := mfpEvent_frame s src
    exact h ▸ .of_eq rfl rfl rfl rfl
  | dispatch src => exact .of_eq rfl rfl rfl rfl
  | timer id x => cases id <;> exact .of_eq rfl rfl rfl rfl
  | input t v => cases t <;> exact .of_eq rfl rfl rfl rfl
  | freeLine i v hfree => exact freeLine_keepsLines v hfree
  | register r v => exact regWrite_keepsLines s r v
  | blitEnds => exact blitLine_keepsLines (u := (s.withBlit _).withOwner .cpu) rfl rfl rfl
  | blitFailsSafe => exact blitToIdle_keepsLines s
  | burstEnds => exact countBurst_keepsLines s
  | reset => exact resetUnits_keepsLines s

theorem UnitEffects.keepsLines {s t : State} (h : UnitEffects s t) : KeepsLines s t := by
  induction h with
  | refl => exact .refl s
  | tail _ effect ih => exact ih.trans effect.keepsLines

/-- Settles O59: each instruction is a chain of unit operations, and each of these keeps both lines. -/
theorem drivenLinesFollowTheirUnits : Obligations.DrivenLinesFollowTheirUnits := by
  intro i s t h hne hload hline
  have kept : KeepsLines s t := (exec_unitEffects i s t h hload hline).keepsLines
  have hblit := kept.blit hne
  have hdma := kept.dma hne
  rw [BlitLineFollows, BlitLineFollows, kept.cfg] at hblit
  rw [DmaLineFollows, DmaLineFollows, kept.cfg] at hdma
  exact ⟨hblit, hdma⟩

end Sys2Proof.Machine
end

section
/-! The interrupt controller (43_mfp.md R280 to R319, R338, R340): which source an IACK takes, the lines and the writes
of its registers; and the two other signals that are functions of the state (44_dma.md R403, 45_video.md R440). -/

namespace Sys2Proof.Machine

/-! ### The greatest eligible source -/

/-- In a list that falls, the first source a test holds of is the greatest it holds of. -/
theorem find?_eq_some_of_falling {p : BitVec 4 → Bool} {src : BitVec 4} {l : List (BitVec 4)}
    (hl : l.Pairwise fun x y => y.toNat < x.toNat) (hmem : src ∈ l) (hsrc : p src = true)
    (hgreater : ∀ x : BitVec 4, src.toNat < x.toNat → p x = false) : l.find? p = some src := by
  induction l with
  | nil => cases hmem
  | cons x l ih =>
    obtain ⟨hx, hrest⟩ := List.pairwise_cons.mp hl
    rcases List.mem_cons.mp hmem with rfl | hin
    · exact List.find?_cons_of_pos hsrc
    · rw [List.find?_cons_of_neg (by simp [hgreater x (hx src hin)]), ih hrest hin]

theorem sourcesDown_falls : sourcesDown.Pairwise fun x y => y.toNat < x.toNat := by decide

theorem mem_sourcesDown (src : BitVec 4) : src ∈ sourcesDown := by
  revert src
  decide

theorem greatestEligible_eq_some {c : Config} {m : Mfp} {src : BitVec 4} (hsrc : eligible c m src = true)
    (hgreater : ∀ x : BitVec 4, src.toNat < x.toNat → eligible c m x = false) : greatestEligible c m = some src :=
  find?_eq_some_of_falling sourcesDown_falls (mem_sourcesDown src) hsrc hgreater

theorem irqOut_iff {s : State} : irqOut s = true ↔ ∃ src, eligible s.cfg s.mfp src = true := by
  simp [irqOut, List.any_eq_true, mem_sourcesDown]

/-- With the interrupt output low no source is eligible. -/
theorem greatestEligible_eq_none {s : State} (h : irqOut s = false) : greatestEligible s.cfg s.mfp = none := by
  refine List.find?_eq_none.mpr fun src _ hsrc => ?_
  rw [irqOut_iff.mpr ⟨src, hsrc⟩] at h
  cases h

/-! ### IACK -/

theorem exec_iack_eligible {s : State} {src : BitVec 4} (he : cpuEnabled s = true)
    (h : greatestEligible s.cfg s.mfp = some src) : exec (.iack s.cfg.mfpIpl) s = .next (takeInterrupt s src) :=
  congrArg Host.Outcome.next ((whenCpu_enabled he).trans ((if_pos rfl).trans (by rw [h])))

theorem exec_iack_none {s : State} (he : cpuEnabled s = true) (h : greatestEligible s.cfg s.mfp = none) :
    exec (.iack s.cfg.mfpIpl) s = .next (takeSpurious s s.cfg.mfpIpl) :=
  congrArg Host.Outcome.next ((whenCpu_enabled he).trans ((if_pos rfl).trans (by rw [h])))

/-- Settles O16: the search finds the greatest eligible source, or none where the output is low. -/
theorem iackDispatchesOrIsSpurious : Obligations.IackDispatchesOrIsSpurious := by
  refine ⟨fun s src he hsrc hgreater => ?_, fun s he hlow => ?_⟩
  · intro v bit
    rw [exec_iack_eligible he (greatestEligible_eq_some hsrc hgreater), takeInterrupt_eq]
    rfl
  · rw [exec_iack_none he (greatestEligible_eq_none hlow), takeSpurious_eq]

/-! ### The signals -/

/-- Bits are set above a place exactly where the value shifted past it is not 0. -/
theorem ushiftRight_ne_zero_iff (x : Word) (n : Nat) :
    x >>> (n + 1) ≠ 0 ↔ ∃ m, n < m ∧ m < 16 ∧ x.getLsbD m = true := by
  constructor
  · intro h
    by_contra hnone
    refine h (BitVec.eq_of_getLsbD_eq fun i hi => ?_)
    have hclear : x.getLsbD (n + 1 + i) = false := by
      refine Bool.eq_false_iff.mpr fun hset => ?_
      exact hnone ⟨n + 1 + i, by omega, BitVec.lt_of_getLsbD hset, hset⟩
    simpa using hclear
  · rintro ⟨m, hnm, -, hset⟩ h
    have hbit : x.getLsbD (n + 1 + (m - (n + 1))) = false := by
      rw [← BitVec.getLsbD_ushiftRight, h]
      exact BitVec.getLsbD_zero
    rw [Nat.add_sub_cancel' hnm, hset] at hbit
    cases hbit

theorem blocked_iff {c : Config} {m : Mfp} {src : BitVec 4} : blocked c m src = true ↔
    m.isr.getLsbD src.toNat = true ∨
      (c.isrBlocksLower = true ∧ ∃ k : Nat, src.toNat < k ∧ k < 16 ∧ m.isr.getLsbD k = true) := by
  rw [blocked, Bool.or_eq_true, Bool.and_eq_true, bne_iff_ne, ushiftRight_ne_zero_iff]

theorem eligible_iff {c : Config} {m : Mfp} {src : BitVec 4} : eligible c m src = true ↔
    m.ipr.getLsbD src.toNat = true ∧ m.imr.getLsbD src.toNat = true ∧ ¬ blocked c m src = true := by
  simp [eligible, and_assoc]

theorem dmaWantsBus_iff {s : State} : dmaWantsBus s = true ↔ s.dma.sectorCount ≠ 0 ∧
    ((dmaDir s.dma = false ∧ s.dma.otherFull = true) ∨ (dmaDir s.dma = true ∧ s.dma.otherFull = false)) := by
  rw [dmaWantsBus, Bool.and_eq_true, bne_iff_ne, beq_iff_eq]
  cases dmaDir s.dma <;> simp

theorem linePos_of_le {s : State} (h : s.vid.lineStart ≤ s.sched.now) :
    linePos s = s.sched.now - s.vid.lineStart :=
  if_pos h

/-- Settles O17: a source is its number below 16, and `ptr` is that of the position `linePos`. -/
theorem signalsOfTheState : Obligations.SignalsOfTheState := by
  refine ⟨fun s => ?_, fun s => dmaWantsBus_iff, fun s => ⟨linePos s, linePos_of_le, fun hout => ?before,
    fun hpic hstart hend => ?inside, fun hpic hstart hend => ?after⟩⟩
  · rw [irqOut_iff]
    simp only [eligible_iff, blocked_iff]
    constructor
    · rintro ⟨src, h⟩
      exact ⟨src.toNat, src.isLt, h⟩
    · rintro ⟨n, hn, h⟩
      have hnat : (BitVec.ofNat 4 n).toNat = n := Nat.mod_eq_of_lt hn
      exact ⟨BitVec.ofNat 4 n, by rwa [hnat]⟩
  case before => exact if_pos hout
  all_goals
    have hin : ¬ (s.vid.bounds.pic = false ∨ linePos s < s.vid.bounds.winStart) := by
      rintro (h | h)
      · exact absurd (hpic.symm.trans h) (by decide)
      · exact absurd h (Nat.not_lt.mpr hstart)
  case inside => exact (if_neg hin).trans (if_pos hend)
  case after => exact (if_neg hin).trans (if_neg (Nat.not_lt.mpr hend))

/-! ### Lines -/

theorem exec_gpio_external {s : State} {i : BitVec 3} (v : Bool) (hf : fireEnabled s = false)
    (hblit : i ≠ s.cfg.blitGpio) (hdma : i ≠ s.cfg.dmaGpio) : exec (.gpio i v) s = .next (setGpioBit s i v) :=
  congrArg Host.Outcome.next ((whenEnvironment_enabled hf).trans (if_neg (not_or.mpr ⟨hblit, hdma⟩)))

/-- The sources 9 to 12 are the internal lines (43_mfp.md R309). -/
theorem internalLine_of_range {src : BitVec 4} (h : 9 ≤ src.toNat) (h' : src.toNat ≤ 12) :
    src = 12 ∨ src = 11 ∨ src = 10 ∨ src = 9 := by
  revert src
  decide

theorem exec_int_internalLine {s : State} {src : BitVec 4} (hf : fireEnabled s = false) (h : 9 ≤ src.toNat)
    (h' : src.toNat ≤ 12) : exec (.int src) s = .next (mfpEvent s src) :=
  congrArg Host.Outcome.next ((whenEnvironment_enabled hf).trans (if_pos (internalLine_of_range h h')))

/-- Settles O18: `setGpioBit_eq` says what a line that moves does, `mfpEvent_eq` what an occurrence does. -/
theorem linesAndInternalLines : Obligations.LinesAndInternalLines := by
  refine ⟨fun s i v => ⟨?_, fun hf hblit hdma => ?_⟩, fun s src hf h h' => ?_⟩
  · exact congrArg Host.Outcome.next (setGpioBit_eq s i v)
  · rw [exec_gpio_external v hf hblit hdma, setGpioBit_eq]
  · rw [exec_int_internalLine hf h h', mfpEvent_eq]

/-! ### Writes of the registers -/

/-- Half A ANDed with a byte is the word ANDed with that byte and ones (R284, R316). -/
theorem putHalfA_and (w : Word) (v : Byte) : putHalfA w (hiByte w &&& v) = w &&& (v ++ 0xFF#8) := by
  refine BitVec.eq_of_getLsbD_eq fun i hi => ?_
  simp only [putHalfA, hiByte, loByte, BitVec.getLsbD_and, BitVec.getLsbD_append, BitVec.getLsbD_extractLsb']
  interval_cases i <;> simp

theorem putHalfB_and (w : Word) (v : Byte) : putHalfB w (loByte w &&& v) = w &&& (0xFF#8 ++ v) := by
  refine BitVec.eq_of_getLsbD_eq fun i hi => ?_
  simp only [putHalfB, hiByte, loByte, BitVec.getLsbD_and, BitVec.getLsbD_append, BitVec.getLsbD_extractLsb']
  interval_cases i <;> simp

/-- VR bits 2:0 are not held (R287). -/
theorem and_heldVrBits (v : Byte) : v &&& 0xF8 = v.extractLsb' 3 5 ++ 0#3 := by
  revert v
  decide

/-- Settles O44: each row applies its register's write rule to `v`; three rules are written otherwise in the
statement. -/
theorem writesOfMfpRegisters : Obligations.WritesOfMfpRegisters := by
  intro s v he m set ierA ierB
  have ipra : writeIpra s v = set { m with ipr := m.ipr &&& (v ++ 0xFF#8) } := by rw [writeIpra, putHalfA_and]; rfl
  have iprb : writeIprb s v = set { m with ipr := m.ipr &&& (0xFF#8 ++ v) } := by rw [writeIprb, putHalfB_and]; rfl
  have vr : writeVr s v = set { m with
      vr := v.extractLsb' 3 5 ++ 0#3, isr := if v.getLsbD 3 then m.isr else 0 } := by
    rw [writeVr, and_heldVrBits]; rfl
  rw [← ipra, ← iprb, ← vr]
  exact ⟨next_congr (byteRegister_wr .gpip (writeGpip s) v he rfl rfl fun _ => rfl),
    next_congr (byteRegister_wr .aer (writeAer s) v he rfl rfl fun _ => rfl),
    next_congr (byteRegister_wr .ddr (writeDdr s) v he rfl rfl fun _ => rfl),
    next_congr (byteRegister_wr .iera (writeIera s) v he rfl rfl fun _ => rfl),
    next_congr (byteRegister_wr .ierb (writeIerb s) v he rfl rfl fun _ => rfl),
    next_congr (byteRegister_wr .ipra (writeIpra s) v he rfl rfl fun _ => rfl),
    next_congr (byteRegister_wr .iprb (writeIprb s) v he rfl rfl fun _ => rfl),
    next_congr (byteRegister_wr .isra (writeIsra s) v he rfl rfl fun _ => rfl),
    next_congr (byteRegister_wr .isrb (writeIsrb s) v he rfl rfl fun _ => rfl),
    next_congr (byteRegister_wr .imra (writeImra s) v he rfl rfl fun _ => rfl),
    next_congr (byteRegister_wr .imrb (writeImrb s) v he rfl rfl fun _ => rfl),
    next_congr (byteRegister_wr .vr (writeVr s) v he rfl rfl fun _ => rfl)⟩

end Sys2Proof.Machine
end

section
/-! The timers (43_mfp.md R288 to R290, R320 to R336): the rows of the mode codes, the control and data registers, the
event input of timer A, and the underflow; and the callback of BLIT_RESUME (42_blitter.md R234). -/

namespace Sys2Proof.Machine

/-! ### Classes of modes (R320) -/

/-- A divider belongs to one mode. -/
theorem eq_of_timerClass_delay {m n : BitVec 4} {p : Nat} (hm : timerClass m = .delay p)
    (hn : timerClass n = .delay p) : m = n := by
  have classes : ∀ a b : BitVec 4, timerClass a = timerClass b → timerClass a = .stopped ∨ a = b := by decide
  rcases classes m n (hm.trans hn.symm) with h | h
  · rw [hm] at h
    cases h
  · exact h

theorem timerClass_eq_event_iff {m : BitVec 4} : timerClass m = .event ↔ m = 8 := by
  revert m
  decide

/-! ### What set_mode leaves (R330) -/

theorem setTimer_self (s : State) (id : TimerId) : setTimer s id (s.timer id) = s := by cases id <;> rfl

theorem startDelay_eq (s : State) (id : TimerId) (m : BitVec 4) (n p : Nat) :
    startDelay s id m n p = scheduled
      { s with mfp := timerPut s.mfp id { timerGet s.mfp id with ctrl := m, cnt := 0, res := 0 } } (timerSlot id)
      (some (s.sched.now + n * p)) := rfl

theorem freezeTimer_eq (s : State) (id : TimerId) (m : BitVec 4) :
    freezeTimer s id m = scheduled
      { s with mfp := timerPut s.mfp id { timerGet s.mfp id with
        ctrl := m, cnt := (liveCounter s id).1, res := (liveCounter s id).2 } } (timerSlot id) none := rfl

section
variable {s : State} {id : TimerId} {m : BitVec 4} {p : Nat}

/-- The divider that already runs. -/
theorem setMode_sameDivider (hm : timerClass m = .delay p) (hold : timerClass (s.timer id).ctrl = .delay p) :
    setMode s id m = s := by
  have hset : setMode s id m = setTimer s id { s.timer id with ctrl := m } := by
    simp only [setMode, hm, hold, if_true]
  rw [hset, ← eq_of_timerClass_delay hold hm]
  exact setTimer_self s id

theorem setMode_otherDivider (hm : timerClass m = .delay p) (hold : timerClass (s.timer id).ctrl ≠ .delay p) :
    setMode s id m = startDelay s id m (timerValue (liveCounter s id).1) p := by
  simp only [setMode, hm, hold, if_false]

theorem setMode_noDelay (hm : ∀ p, timerClass m ≠ .delay p) : setMode s id m = freezeTimer s id m := by
  obtain ⟨p, h, _⟩ | ⟨p, h, _⟩ | ⟨_, h⟩ := setMode_cases s id m
  · exact absurd h (hm p)
  · exact absurd h (hm p)
  · exact h

end

/-- A count of periods from 1 to 256, kept in a byte, counts as itself (R331). -/
theorem timerValue_ofNat {c : Nat} (h : 1 ≤ c) (h' : c ≤ 256) : timerValue (BitVec.ofNat 8 c) = c := by
  rcases Nat.lt_or_eq_of_le h' with hlt | rfl
  · have hnat : (BitVec.ofNat 8 c).toNat = c := Nat.mod_eq_of_lt hlt
    have hne : BitVec.ofNat 8 c ≠ 0 := fun h0 => by
      have := congrArg BitVec.toNat h0
      rw [hnat] at this
      exact absurd this (Nat.ne_of_gt h)
    rw [timerValue, if_neg hne, hnat]
  · rfl

/-- The periods left of a running timer are from 1 to 256. -/
theorem ceilDiv_bounds {left q : Nat} (hq : 0 < q) (hleft : 0 < left) (hle : left ≤ 256 * q) :
    1 ≤ ceilDiv left q ∧ ceilDiv left q ≤ 256 := by
  constructor
  · exact (Nat.one_le_div_iff hq).mpr (by omega)
  · refine Nat.le_of_lt_succ ((Nat.div_lt_iff_lt_mul hq).mpr ?_)
    omega

/-! ### The rows of the mode codes -/

/-- Settles O50: each row sets the mode of its code, whose divider `setMode` compares with the one that runs. -/
theorem delayModeCodes : Obligations.DelayModeCodes := by
  intro s ab cd id i m p hrow tm started
  obtain ⟨hexec, hm⟩ : exec i s = .next (setMode s id m) ∧ timerClass m = .delay p := by
    simp only [List.mem_cons, Prod.mk.injEq, List.not_mem_nil, or_false] at hrow
    rcases hrow with ⟨rfl, rfl, rfl, rfl⟩ | ⟨rfl, rfl, rfl, rfl⟩ | ⟨rfl, rfl, rfl, rfl⟩ | ⟨rfl, rfl, rfl, rfl⟩ |
      ⟨rfl, rfl, rfl, rfl⟩ | ⟨rfl, rfl, rfl, rfl⟩ | ⟨rfl, rfl, rfl, rfl⟩ | ⟨rfl, rfl, rfl, rfl⟩ |
      ⟨rfl, rfl, rfl, rfl⟩ | ⟨rfl, rfl, rfl, rfl⟩ | ⟨rfl, rfl, rfl, rfl⟩ | ⟨rfl, rfl, rfl, rfl⟩ |
      ⟨rfl, rfl, rfl, rfl⟩ | ⟨rfl, rfl, rfl, rfl⟩ <;> exact ⟨rfl, rfl⟩
  rw [hexec]
  refine ⟨fun hold => ?stored, fun hold => ?same, fun q due hq hold hdue hnow hle => ?running⟩
  case stored =>
    rw [setMode_otherDivider hm (hold p), liveCounter_stored s id hold, startDelay_eq]
    rfl
  case same => rw [setMode_sameDivider hm hold]
  case running =>
    have hother : timerClass (s.timer id).ctrl ≠ .delay p := fun h => hq (TimerClass.delay.inj (hold.symm.trans h))
    obtain ⟨hone, hfit⟩ := ceilDiv_bounds (timerClass_delay_pos _ q hold) (Nat.sub_pos_of_lt hnow) hle
    rw [setMode_otherDivider hm hother, liveCounter_running s id q due hold hdue hnow, startDelay_eq,
      timerValue_ofNat hone hfit]
    rfl

/-- Settles O51: each row sets a mode that is no delay mode, which freezes the live counter. -/
theorem stoppedAndEventModeCodes : Obligations.StoppedAndEventModeCodes := by
  intro s ab cd id i m hrow tm frozen
  obtain ⟨hexec, hm⟩ : exec i s = .next (setMode s id m) ∧ (timerClass m = .stopped ∨ timerClass m = .event) := by
    simp only [List.mem_cons, Prod.mk.injEq, List.not_mem_nil, or_false] at hrow
    rcases hrow with ⟨rfl, rfl, rfl⟩ | ⟨rfl, rfl, rfl⟩ | ⟨rfl, rfl, rfl⟩ | ⟨rfl, rfl, rfl⟩ | ⟨rfl, rfl, rfl⟩ |
      ⟨rfl, rfl, rfl⟩ | ⟨rfl, rfl, rfl⟩ | ⟨rfl, rfl, rfl⟩ | ⟨rfl, rfl, rfl⟩ | ⟨rfl, rfl, rfl⟩ <;>
      exact ⟨rfl, by decide⟩
  have hnoDelay (p : Nat) : timerClass m ≠ .delay p := by
    rcases hm with h | h <;> simp [h]
  rw [hexec, setMode_noDelay hnoDelay, freezeTimer_eq]
  refine ⟨fun hold => ?_, fun q due hold hdue hnow => ?_⟩
  · rw [liveCounter_stored s id hold]
    rfl
  · rw [liveCounter_running s id q due hold hdue hnow]
    rfl

/-! ### The event input of timer A (R335, R336) -/

theorem exec_tai {s : State} (v : Bool) (hf : fireEnabled s = false) :
    exec (.tai v) s = .next (timerInput s .a v) :=
  congrArg Host.Outcome.next (whenEnvironment_enabled hf)

/-- An edge that counts: the level changes to the one AER selects, in event-count mode. -/
theorem timerInput_a_edge {s : State} {v : Bool} (hlevel : s.mfp.tai ≠ v) (hedge : v = s.mfp.aer.getLsbD 4)
    (hmode : s.mfp.ta.ctrl = 8) :
    timerInput s .a v =
      let s1 := s.withMfp { s.mfp with tai := v }
      if s.mfp.ta.cnt - 1 = 0 then
        setTimer (mfpEvent s1 13) .a { (mfpEvent s1 13).timer .a with cnt := ((mfpEvent s1 13).timer .a).data }
      else setTimer s1 .a { s1.timer .a with cnt := s.mfp.ta.cnt - 1 } :=
  if_pos ⟨hlevel, hedge, timerClass_eq_event_iff.mpr hmode⟩

theorem timerInput_a_quiet {s : State} {v : Bool}
    (h : s.mfp.tai = v ∨ v ≠ s.mfp.aer.getLsbD 4 ∨ s.mfp.ta.ctrl ≠ 8) :
    timerInput s .a v = s.withMfp { s.mfp with tai := v } := by
  refine if_neg fun ⟨hlevel, hedge, hmode⟩ => ?_
  rcases h with h | h | h
  · exact hlevel h
  · exact h hedge
  · exact h (timerClass_eq_event_iff.mp hmode)

/-- Settles O19: the edge counts down, and at 0 the counter is reloaded after the occurrence. -/
theorem timerAInputCounts : Obligations.TimerAInputCounts := by
  intro s v hf s1 c
  rw [exec_tai v hf]
  refine ⟨fun hlevel hedge hmode hc => ?_, fun hlevel hedge hmode hc => ?_, fun h => ?_⟩
  · rw [timerInput_a_edge hlevel hedge hmode]
    exact congrArg Host.Outcome.next (if_neg hc)
  · rw [timerInput_a_edge hlevel hedge hmode, ← mfpEvent_eq]
    exact congrArg Host.Outcome.next (if_pos hc)
  · rw [timerInput_a_quiet h]
    rfl

/-! ### The callbacks of the timers and of BLIT_RESUME -/

/-- An occurrence leaves the timers as they are. -/
theorem mfpEvent_timer (s : State) (src : BitVec 4) (id : TimerId) : (mfpEvent s src).timer id = s.timer id := by
  obtain ⟨p, tr, h⟩ := mfpEvent_frame s src
  rw [h]
  cases id <;> rfl

theorem callback_timerSlot (s : State) (id : TimerId) (t : Nat) : callback s (timerSlot id) t = underflow s id t := by
  cases id <;> rfl

theorem underflow_delay {s : State} {id : TimerId} {p : Nat} (t : Nat) (h : timerClass (s.timer id).ctrl = .delay p) :
    underflow s id t =
      schedule (mfpEvent s (timerSource id)) (timerSlot id) (some (t + timerValue (s.timer id).data * p)) := by
  simp only [underflow, mfpEvent_timer, h]

/-- Settles O29: the underflow re-arms from `t` by the divider of the mode; BLIT_RESUME asks for the bus only while a
blit waits. -/
theorem timerAndResumeCallbacks : Obligations.TimerAndResumeCallbacks := by
  intro s t
  refine ⟨fun id p hp => ?_, fun hbusy hreq => if_pos ⟨hbusy, hreq⟩, fun hidle => ?_⟩
  · rw [callback_timerSlot, underflow_delay t hp, mfpEvent_eq]
    rfl
  · refine if_neg fun ⟨hbusy, hreq⟩ => ?_
    rcases hidle with h | h
    · exact absurd (hbusy.symm.trans h) (by decide)
    · exact absurd (hreq.symm.trans h) (by decide)

/-! ### The control and data registers -/

/-- The modes of TCDCR have three bits (R289). -/
theorem threeBitMode (m : BitVec 3) : m.setWidth 4 = 0#1 ++ m := by
  revert m
  decide

/-- `row` is the register row of the data register `r` of timer `id`, at offset `o` of the bank (R290). -/
structure TimerDataRow (row : Acc8 → Instr) (id : TimerId) (o : Nat) (r : Reg) : Prop where
  exec_eq : ∀ (s : State) (acc : Acc8), exec (row acc) s = .next (access8At s .mfp o acc)
  at_offset : regAt .mfp o = some (r, 0)
  one_byte : regSize r = 1
  read_eq : ∀ s : State, regRead s r = (wideByte (liveCounter s id).1, s)
  write_eq : ∀ (s : State) (v : BitVec 32), regWrite s r v = writeTimerData s id (v.setWidth 8)

theorem TimerDataRow.read {row : Acc8 → Instr} {id : TimerId} {o : Nat} {r : Reg} (h : TimerDataRow row id o r)
    {s : State} (he : cpuEnabled s = true) :
    exec (row .rd) s = .next (read8 s .mfp o (liveCounter s id).1) :=
  (h.exec_eq s .rd).trans (next_congr (access8At_rd r he h.at_offset h.one_byte (h.read_eq s)))

theorem TimerDataRow.write {row : Acc8 → Instr} {id : TimerId} {o : Nat} {r : Reg} (h : TimerDataRow row id o r)
    {s : State} (v : Byte) (he : cpuEnabled s = true) :
    exec (row (.wr v)) s = .next (wrote8 (writeTimerData s id v) .mfp o v) :=
  (h.exec_eq s (.wr v)).trans
    (next_congr (byteRegister_wr r (writeTimerData s id) v he h.at_offset h.one_byte (h.write_eq s)))

theorem timerDataRow_tadr : TimerDataRow .regMfpTadr .a 0x1F .tadr :=
  ⟨fun _ _ => rfl, rfl, rfl, fun _ => rfl, fun _ _ => rfl⟩

theorem timerDataRow_tbdr : TimerDataRow .regMfpTbdr .b 0x21 .tbdr :=
  ⟨fun _ _ => rfl, rfl, rfl, fun _ => rfl, fun _ _ => rfl⟩

theorem timerDataRow_tcdr : TimerDataRow .regMfpTcdr .c 0x23 .tcdr :=
  ⟨fun _ _ => rfl, rfl, rfl, fun _ => rfl, fun _ _ => rfl⟩

theorem timerDataRow_tddr : TimerDataRow .regMfpTddr .d 0x25 .tddr :=
  ⟨fun _ _ => rfl, rfl, rfl, fun _ => rfl, fun _ _ => rfl⟩

/-- The reload value is written, and the counter of a stopped timer with it (R290). -/
theorem writeTimerData_eq (s : State) (id : TimerId) (v : Byte) :
    writeTimerData s id v = { s with mfp := timerPut s.mfp id { timerGet s.mfp id with
      data := v
      cnt := if timerClass (timerGet s.mfp id).ctrl = .stopped then v else (timerGet s.mfp id).cnt } } := by
  by_cases h : timerClass (timerGet s.mfp id).ctrl = .stopped
  · rw [if_pos h]
    exact if_pos h
  · rw [if_neg h]
    exact if_neg h

/-- Settles O45: a control register is `setMode` of its timers; a data register reads the live counter. -/
theorem timerRegisters : Obligations.TimerRegisters := by
  refine ⟨fun s v he => ⟨?tacr, ?tbcr, ?tcdcr⟩, fun s id o row he hrow hname => ?data⟩
  case tacr => exact next_congr (byteRegister_wr .tacr (writeTacr s) v he rfl rfl fun _ => rfl)
  case tbcr => exact next_congr (byteRegister_wr .tbcr (writeTbcr s) v he rfl rfl fun _ => rfl)
  case tcdcr =>
    rw [← threeBitMode, ← threeBitMode]
    exact next_congr (byteRegister_wr .tcdcr (writeTcdcr s) v he rfl rfl fun _ => rfl)
  case data =>
    obtain ⟨r, hr⟩ : ∃ r, TimerDataRow row id o r := by
      simp only [List.mem_cons, List.not_mem_nil, or_false] at hname
      rcases hname with rfl | rfl | rfl | rfl <;>
        simp only [List.mem_cons, Prod.mk.injEq, List.not_mem_nil, reduceCtorEq, and_false, or_false, false_or,
          and_true] at hrow <;>
        obtain ⟨rfl, rfl⟩ := hrow
      · exact ⟨_, timerDataRow_tadr⟩
      · exact ⟨_, timerDataRow_tbdr⟩
      · exact ⟨_, timerDataRow_tcdr⟩
      · exact ⟨_, timerDataRow_tddr⟩
    refine ⟨fun hold => ?_, fun p due hold hdue hnow => ?_, fun v => ?_⟩
    · rw [hr.read he, liveCounter_stored s id hold]
      rfl
    · rw [hr.read he, liveCounter_running s id p due hold hdue hnow]
      rfl
    · rw [hr.write v he, writeTimerData_eq]

end Sys2Proof.Machine
end

section
/-! Every pending source is enabled, and none is in service with VR.S = 0 (43_mfp.md R310, R314, R319, R340): each
operation of the units keeps both, and so does every instruction made of them. -/

namespace Sys2Proof.Machine

/-! ### The two rules -/

theorem pendingEnabled_iff {m : Mfp} :
    PendingEnabled m ↔ ∀ i, m.ipr.getLsbD i = true → m.ier.getLsbD i = true := by
  constructor
  · intro h i hi
    have hbit := congrArg (fun w : Word => w.getLsbD i) h
    simp only [BitVec.getLsbD_and, BitVec.getLsbD_not, hi, BitVec.lt_of_getLsbD hi, decide_true, Bool.true_and] at hbit
    simpa using hbit
  · intro h
    refine BitVec.eq_of_getLsbD_eq fun i hi => ?_
    rw [BitVec.getLsbD_and, BitVec.getLsbD_not]
    cases hset : m.ipr.getLsbD i with
    | false => simp
    | true => simp [h i hset]

/-- Pending bits can be cleared (R316, R340). -/
theorem pendingEnabled_of_cleared {m m' : Mfp} {mask : Word} (hier : m'.ier = m.ier) (hipr : m'.ipr = m.ipr &&& mask)
    (h : PendingEnabled m) : PendingEnabled m' := by
  rw [pendingEnabled_iff] at h ⊢
  intro i hi
  rw [hipr, BitVec.getLsbD_and, Bool.and_eq_true] at hi
  exact hier ▸ h i hi.1

/-- The pending bit of an enabled source can be set (R310). -/
theorem pendingEnabled_of_set {m m' : Mfp} {src : BitVec 4} (hier : m'.ier = m.ier)
    (hipr : m'.ipr = putBit m.ipr src.toNat true) (hsrc : m.ier.getLsbD src.toNat = true) (h : PendingEnabled m) :
    PendingEnabled m' := by
  rw [pendingEnabled_iff] at h ⊢
  intro i hi
  rw [hipr, getLsbD_putBit _ src.isLt] at hi
  rw [hier]
  by_cases hi' : i = src.toNat
  · rwa [hi']
  · exact h i (by rwa [if_neg hi'] at hi)

theorem inServiceNeedsS_of_eq {m m' : Mfp} (hvr : m'.vr = m.vr) (hisr : m'.isr = m.isr) (h : InServiceNeedsS m) :
    InServiceNeedsS m' := fun hs => by
  rw [vrS, hvr] at hs
  rw [hisr, h hs]

/-! ### What keeps them -/

/-- Where a rule holds in `s` it holds in `t`. -/
structure KeepsInterruptRules (s t : State) : Prop where
  pending : PendingEnabled s.mfp → PendingEnabled t.mfp
  inService : InServiceNeedsS s.mfp → InServiceNeedsS t.mfp

theorem KeepsInterruptRules.refl (s : State) : KeepsInterruptRules s s := ⟨id, id⟩

theorem KeepsInterruptRules.trans {s t u : State} (h : KeepsInterruptRules s t) (h' : KeepsInterruptRules t u) :
    KeepsInterruptRules s u :=
  ⟨h'.pending ∘ h.pending, h'.inService ∘ h.inService⟩

theorem KeepsInterruptRules.ite {s a b : State} {c : Prop} [Decidable c] (ha : KeepsInterruptRules s a)
    (hb : KeepsInterruptRules s b) : KeepsInterruptRules s (if c then a else b) := by
  split
  · exact ha
  · exact hb

/-- None of the registers the rules speak of changes. -/
theorem KeepsInterruptRules.of_eq {s t : State} (hier : t.mfp.ier = s.mfp.ier) (hipr : t.mfp.ipr = s.mfp.ipr)
    (hisr : t.mfp.isr = s.mfp.isr) (hvr : t.mfp.vr = s.mfp.vr) : KeepsInterruptRules s t where
  pending := fun h => by rwa [PendingEnabled, hier, hipr]
  inService := inServiceNeedsS_of_eq hvr hisr

/-- Pending bits are cleared, and no more. -/
theorem KeepsInterruptRules.of_cleared {s t : State} {mask : Word} (hier : t.mfp.ier = s.mfp.ier)
    (hipr : t.mfp.ipr = s.mfp.ipr &&& mask) (hisr : t.mfp.isr = s.mfp.isr) (hvr : t.mfp.vr = s.mfp.vr) :
    KeepsInterruptRules s t :=
  ⟨pendingEnabled_of_cleared hier hipr, inServiceNeedsS_of_eq hvr hisr⟩

/-! ### Each operation keeps them -/

theorem mfpEvent_keepsInterruptRules (s : State) (src : BitVec 4) : KeepsInterruptRules s (mfpEvent s src) := by
  obtain ⟨p, tr, h⟩ := mfpEvent_frame s src
  have hm : (mfpEvent s src).mfp = { s.mfp with ipr := p } := by rw [h]
  have hier : (mfpEvent s src).mfp.ier = s.mfp.ier := by rw [hm]
  refine ⟨fun hs => ?_, inServiceNeedsS_of_eq (by rw [hm]) (by rw [hm])⟩
  rcases mfpEvent_ipr s src with hipr | ⟨hsrc, hipr⟩
  · rwa [PendingEnabled, hipr, hier]
  · exact pendingEnabled_of_set hier hipr hsrc hs

/-- A line can make its source pending (R307). -/
theorem setGpioBit_keepsInterruptRules (s : State) (i : BitVec 3) (v : Bool) :
    KeepsInterruptRules s (setGpioBit s i v) := by
  have moved : KeepsInterruptRules s (s.withMfp { s.mfp with ext := putBit s.mfp.ext i.toNat v }) :=
    .of_eq rfl rfl rfl rfl
  exact .ite moved (.ite (moved.trans (mfpEvent_keepsInterruptRules _ _)) moved)

theorem setTimer_keepsInterruptRules (s : State) (id : TimerId) (x : Timer) :
    KeepsInterruptRules s (setTimer s id x) := by
  cases id <;> exact .of_eq rfl rfl rfl rfl

theorem setMode_keepsInterruptRules (s : State) (id : TimerId) (m : BitVec 4) :
    KeepsInterruptRules s (setMode s id m) := by
  have set (x : Timer) := setTimer_keepsInterruptRules s id x
  have armed {t : State} (h : KeepsInterruptRules s t) (x : SlotId) (due : Option Nat) :
      KeepsInterruptRules s (schedule t x due) := h.trans (.of_eq rfl rfl rfl rfl)
  obtain ⟨_, _, _, h⟩ | ⟨_, _, _, h⟩ | ⟨_, h⟩ := setMode_cases s id m
  · exact h ▸ set _
  · exact h ▸ armed (set _) _ _
  · exact h ▸ armed (set _) _ _

/-- The pending bits of sources just disabled go (R314). -/
theorem putIer_keepsInterruptRules (s : State) (v : Word) : KeepsInterruptRules s (putIer s v) where
  pending := fun _ => pendingEnabled_iff.mpr fun i hi => by
    have hboth : (s.mfp.ipr &&& v).getLsbD i = true := hi
    rw [BitVec.getLsbD_and, Bool.and_eq_true] at hboth
    exact hboth.2
  inService := id

theorem endService_keepsInterruptRules (s : State) (v : Word) : KeepsInterruptRules s (endService s v) where
  pending := id
  inService := fun h hs => by
    have hisr : s.mfp.isr = 0 := h hs
    rw [endService_eq]
    simp [hisr]

/-- With S = 0 every in-service bit goes (R319). -/
theorem writeVr_keepsInterruptRules (s : State) (v : Byte) : KeepsInterruptRules s (writeVr s v) where
  pending := id
  inService := fun _ hs => by
    have hbit : v.getLsbD 3 = false := by
      have hheld : (v &&& 0xF8).getLsbD 3 = false := hs
      simpa using hheld
    exact if_neg (Bool.eq_false_iff.mp hbit)

/-- A dispatch clears its pending bit, and sets its in-service bit only with S = 1 (R340). -/
theorem takeInterrupt_keepsInterruptRules (s : State) (src : BitVec 4) :
    KeepsInterruptRules s (takeInterrupt s src) where
  pending := pendingEnabled_of_cleared (mask := ~~~(1#16 <<< src.toNat)) rfl rfl
  inService := fun h hs => by
    have hoff : vrS s.mfp = false := hs
    have hisr : (takeInterrupt s src).mfp.isr = s.mfp.isr := if_neg (Bool.eq_false_iff.mp hoff)
    rw [hisr, h hoff]

theorem lineUpdate_keepsInterruptRules {s u : State} (h : u.mfp = s.mfp) : KeepsInterruptRules s (lineUpdate u) := by
  have same : KeepsInterruptRules s u := .of_eq (by rw [h]) (by rw [h]) (by rw [h]) (by rw [h])
  exact same.trans (setGpioBit_keepsInterruptRules _ _ _)

theorem writeBlitCtrl_keepsInterruptRules (s : State) (v : Byte) : KeepsInterruptRules s (writeBlitCtrl s v) := by
  have fields (t : State) (b : Blit) : KeepsInterruptRules t (t.withBlit b) := .of_eq rfl rfl rfl rfl
  have requested (t : State) : KeepsInterruptRules t (requestBlit t) := .of_eq rfl rfl rfl rfl
  have restart (t : State) : KeepsInterruptRules t (blitRestart t) := .of_eq rfl rfl rfl rfl
  have start (t : State) : KeepsInterruptRules t (blitStart t) :=
    ((fields t _).trans (setGpioBit_keepsInterruptRules _ _ true)).trans (requested _)
  have abort (t : State) : KeepsInterruptRules t (blitAbort t) := by
    have stopped (b : Blit) : KeepsInterruptRules t (schedule (t.withBlit b) .blitResume none) :=
      .of_eq rfl rfl rfl rfl
    exact (stopped _).trans (setGpioBit_keepsInterruptRules _ _ false)
  rw [writeBlitCtrl_eq]
  exact .ite (.ite ((fields s _).trans (restart _)) ((fields s _).trans (start _)))
    (.ite ((fields s _).trans (abort _)) (fields s _))

theorem regWrite_keepsInterruptRules (s : State) (r : Reg) (v : BitVec 32) :
    KeepsInterruptRules s (regWrite s r v) := by
  cases r <;> simp only [regWrite]
  case iera | ierb => exact putIer_keepsInterruptRules _ _
  case ipra => exact .of_cleared rfl (putHalfA_and _ _) rfl rfl
  case iprb => exact .of_cleared rfl (putHalfB_and _ _) rfl rfl
  case isra | isrb => exact endService_keepsInterruptRules _ _
  case vr => exact writeVr_keepsInterruptRules _ _
  case tacr | tbcr => exact setMode_keepsInterruptRules _ _ _
  case tcdcr => exact (setMode_keepsInterruptRules _ _ _).trans (setMode_keepsInterruptRules _ _ _)
  case tadr | tbdr | tcdr | tddr =>
    exact .ite (setTimer_keepsInterruptRules _ _ _) (setTimer_keepsInterruptRules _ _ _)
  case ctrl => exact writeBlitCtrl_keepsInterruptRules _ _
  case data => exact .ite (lineUpdate_keepsInterruptRules rfl) (.of_eq rfl rfl rfl rfl)
  case mode => exact .ite (.of_eq rfl rfl rfl rfl) (lineUpdate_keepsInterruptRules rfl)
  case sndCtrl => exact .ite (.of_eq rfl rfl rfl rfl) (.ite (.of_eq rfl rfl rfl rfl) (.of_eq rfl rfl rfl rfl))
  -- the other registers are no part of the rules
  all_goals exact .of_eq rfl rfl rfl rfl

/-- The end of a blit lets the blitter's line fall (R231). -/
theorem blitTerminate_keepsInterruptRules (s : State) : KeepsInterruptRules s (blitTerminate s) := by
  have released (b : Blit) : KeepsInterruptRules s ((s.withBlit b).withOwner .cpu) := .of_eq rfl rfl rfl rfl
  exact (released _).trans (setGpioBit_keepsInterruptRules _ _ false)

theorem blitToIdle_keepsInterruptRules (s : State) : KeepsInterruptRules s (blitToIdle s) := by
  simp only [blitToIdle]
  split <;> exact .of_eq rfl rfl rfl rfl

/-- A reset leaves no bit pending or in service (70_reset_and_hazards.md R522). -/
theorem resetUnits_keepsInterruptRules (s : State) : KeepsInterruptRules s (resetUnits s) where
  pending := fun _ => show (0 : Word) &&& ~~~0 = 0 by decide
  inService := fun _ _ => rfl

theorem UnitEffect.keepsInterruptRules {s t : State} (h : UnitEffect s t) : KeepsInterruptRules s t := by
  cases h with
  | elsewhere h =>
    simp only [wiring, Prod.mk.injEq] at h
    obtain ⟨_, hmfp, _⟩ := h
    exact .of_eq (by rw [hmfp]) (by rw [hmfp]) (by rw [hmfp]) (by rw [hmfp])
  | event src => exact mfpEvent_keepsInterruptRules s src
  | dispatch src => exact takeInterrupt_keepsInterruptRules s src
  | timer id x => exact setTimer_keepsInterruptRules s id x
  | input t v => cases t <;> exact .of_eq rfl rfl rfl rfl
  | freeLine i v _ => exact setGpioBit_keepsInterruptRules s i v
  | register r v => exact regWrite_keepsInterruptRules s r v
  | blitEnds => exact blitTerminate_keepsInterruptRules s
  | blitFailsSafe => exact blitToIdle_keepsInterruptRules s
  | burstEnds => exact .ite (lineUpdate_keepsInterruptRules rfl) (.of_eq rfl rfl rfl rfl)
  | reset => exact resetUnits_keepsInterruptRules s

theorem UnitEffects.keepsInterruptRules {s t : State} (h : UnitEffects s t) : KeepsInterruptRules s t := by
  induction h with
  | refl => exact .refl s
  | tail _ effect ih => exact ih.trans effect.keepsInterruptRules

/-- Settles O58: each instruction is a chain of unit operations, and SET_GPIO_BIT is the move of a line; each of these
keeps both rules. -/
theorem interruptBitsStayConsistent : Obligations.InterruptBitsStayConsistent := by
  intro i s t h hload
  have kept : KeepsInterruptRules s t := by
    by_cases hline : ∃ n v, i = .setGpioBit n v
    · obtain ⟨n, v, rfl⟩ := hline
      exact Host.Outcome.next.inj h ▸ setGpioBit_keepsInterruptRules s n v
    · exact (exec_unitEffects i s t h hload fun n v hi => hline ⟨n, v, hi⟩).keepsInterruptRules
  exact ⟨kept.pending, kept.inService⟩

end Sys2Proof.Machine
end

section
/-! The disk DMA engine (44_dma.md): the bytes that the disk controller moves (R396 to R401), the registers MODE, STATUS
and the address bytes (R381 to R383, R386), and the data port (R384, R385, R411). -/

namespace Sys2Proof.Machine

/-! ### The buffers (R396 to R401) -/

theorem exec_dbin {s : State} (b : Byte) (hf : fireEnabled s = false) : exec (.dbin b) s = .next (diskIn s b) :=
  congrArg Host.Outcome.next (whenEnvironment_enabled hf)

theorem exec_dbout {s : State} (hf : fireEnabled s = false) : exec .dbout s = .next (diskOut s) :=
  congrArg Host.Outcome.next (whenEnvironment_enabled hf)

/-- The engine with one more byte of the active buffer passed, which at the 16th may swap the buffers (R396, R400). -/
def bytePassed (d : Dma) : Dma := swapIfDone { d with idx := d.idx + 1 }

/-- No swap before the 16th byte, nor while the other buffer is not ready (R398). -/
theorem bytePassed_stays {d : Dma} {dir : Bool} (hdir : dmaDir d = dir)
    (h : d.idx < 15 ∨ (d.idx = 15 ∧ d.otherFull = !dir)) : bytePassed d = { d with idx := d.idx + 1 } := by
  unfold bytePassed swapIfDone
  split
  next hend =>
    have hidx : d.idx + 1 = 16 := hend
    obtain hlt | ⟨_, hfull⟩ := h
    · omega
    · exact if_neg fun hswap => Bool.not_ne_self dir (hfull.symm.trans (hswap.2.trans hdir))
  next => rfl

theorem bytePassed_swaps {d : Dma} {dir : Bool} (hdir : dmaDir d = dir) (hidx : d.idx = 15)
    (hfull : d.otherFull = dir) :
    bytePassed d = { d with active := 1 - d.active, idx := 0, otherFull := !dir } := by
  have hend : d.idx + 1 = 16 := congrArg (· + 1) hidx
  subst hdir
  exact (if_pos hend).trans (if_pos ⟨hend, hfull⟩)

/-- The engine with a byte placed at `buf[active][idx]` (R396). -/
def bytePlaced (d : Dma) (b : Byte) : Dma :=
  { d with
    buf0 := if d.active = 0 then bufPut d.buf0 d.idx b else d.buf0
    buf1 := if d.active = 0 then d.buf1 else bufPut d.buf1 d.idx b }

theorem putActiveBuf_eq_bytePlaced (d : Dma) (b : Byte) :
    putActiveBuf d (bufPut (activeBuf d) d.idx b) = bytePlaced d b := by
  by_cases h : d.active = 0 <;> simp only [putActiveBuf, activeBuf, bytePlaced, h, if_true, if_false]

section
variable {s : State} {b : Byte}

theorem diskIn_ignored (hdir : dmaDir s.dma = false) (hsect : s.dma.sectorCount = 0) : diskIn s b = s := by
  simp [diskIn, hdir, hsect]

theorem diskIn_overrun (hdir : dmaDir s.dma = false) (hsect : s.dma.sectorCount ≠ 0) (hidx : s.dma.idx = 16) :
    diskIn s b = s.withDma { s.dma with err := true } := by
  simp only [diskIn, hdir, hsect, hidx, Bool.false_eq_true, if_false, if_true]

theorem diskIn_places (hdir : dmaDir s.dma = false) (hsect : s.dma.sectorCount ≠ 0) (hidx : s.dma.idx ≠ 16) :
    diskIn s b = s.withDma (bytePassed (bytePlaced s.dma b)) := by
  simp only [diskIn, hdir, hsect, hidx, if_false, putActiveBuf_eq_bytePlaced, Bool.false_eq_true, bytePassed]

theorem diskOut_underrun (hdir : dmaDir s.dma = true) (hidx : s.dma.idx = 16) :
    diskOut s = reporting (s.withDma { s.dma with err := true }) (.diskByte none) := by
  simp [diskOut, hdir, hidx, emitReport_eq]

theorem diskOut_returns (hdir : dmaDir s.dma = true) (hidx : s.dma.idx ≠ 16) :
    diskOut s = reporting (s.withDma (bytePassed s.dma))
      (.diskByte (some (bufGet (activeBuf s.dma) (15 - s.dma.idx)))) := by
  simp [diskOut, hdir, hidx, emitReport_eq, bytePassed]

end

/-- Settles O20: a byte that is moved passes in its buffer, and `bytePassed` swaps the buffers or not. -/
theorem diskBytes : Obligations.DiskBytes := by
  refine ⟨fun s b hf hdir => ?dbin, fun s hf hdir => ?dbout⟩
  case dbin =>
    have placedDir : dmaDir (bytePlaced s.dma b) = false := hdir
    rw [exec_dbin b hf]
    refine ⟨fun hsect => ?_, fun hsect hidx => ?_, fun hsect hidx => ?_, fun hsect hidx hfull => ?_⟩
    · rw [diskIn_ignored hdir hsect]
    · rw [diskIn_overrun hdir hsect hidx]
      rfl
    · rw [diskIn_places hdir hsect (by omega), bytePassed_stays placedDir hidx]
      rfl
    · rw [diskIn_places hdir hsect (by omega), bytePassed_swaps placedDir hidx hfull]
      rfl
  case dbout =>
    rw [exec_dbout hf]
    refine ⟨fun hidx => ?_, fun hidx => ?_, fun hidx hfull => ?_⟩
    · rw [diskOut_underrun hdir hidx]
      rfl
    · rw [diskOut_returns hdir (by omega), bytePassed_stays hdir hidx]
      rfl
    · rw [diskOut_returns hdir (by omega), bytePassed_swaps hdir hidx hfull]
      rfl

/-! ### MODE, STATUS and the address (R381 to R383, R386) -/

theorem writeDmaMode_held {s : State} {v : Word} (h : v.getLsbD 8 = dmaDir s.dma) :
    writeDmaMode s v = s.withDma { s.dma with mode := v } :=
  if_pos h

/-- A change of direction resets the engine but for MODE and the address, so no sector is left and the line falls
(R381, R382, R411). -/
theorem writeDmaMode_turned {s : State} {v : Word} (h : v.getLsbD 8 ≠ dmaDir s.dma) :
    writeDmaMode s v = lineMoved
      (s.withDma { Dma.reset with mode := v, addr := s.dma.addr, idx := if v.getLsbD 8 then 16 else 0 })
      s.cfg.dmaGpio false :=
  (if_neg h).trans (lineUpdate_eq _)

/-- STATUS is `zext_16(NMS ++ ERR)` (R383). -/
theorem dmaStatus_eq (d : Dma) :
    dmaStatus d = 0#14 ++ BitVec.ofBool (d.sectorCount == 0) ++ BitVec.ofBool d.err := by
  unfold dmaStatus bit1
  generalize (d.sectorCount == 0) = nms
  generalize d.err = err
  revert nms err
  decide

/-- The bytes of an address below or above the one that a write replaces, taken together (R386). -/
theorem address_halves (a : Addr) :
    addrMid a ++ addrLo a = a.extractLsb' 0 16 ∧ addrTop a ++ addrHi a = a.extractLsb' 16 16 := by
  obtain ⟨hupper, hlower⟩ := address_words a
  rw [regByte_addr_top, regByte_addr_hi] at hupper
  rw [regByte_addr_mid, regByte_addr_lo] at hlower
  exact ⟨hlower, hupper⟩

theorem address_above_low (a : Addr) : addrTop a ++ addrHi a ++ addrMid a = a.extractLsb' 8 24 := by
  refine BitVec.eq_of_getLsbD_eq fun i hi => ?_
  simp only [addrTop, addrHi, addrMid, BitVec.getLsbD_append, BitVec.getLsbD_extractLsb']
  interval_cases i <;> rfl

theorem writeAddrHi_eq (s : State) (v : Byte) : writeAddrHi s v =
    putDmaAddr s (s.dma.addr.extractLsb' 24 8 ++ v ++ s.dma.addr.extractLsb' 0 16) := by
  rw [← (address_halves s.dma.addr).1]
  exact congrArg (putDmaAddr s) (BitVec.append_assoc ..)

theorem writeAddrMid_eq (s : State) (v : Byte) : writeAddrMid s v =
    putDmaAddr s (s.dma.addr.extractLsb' 16 16 ++ v ++ s.dma.addr.extractLsb' 0 8) := by
  rw [← (address_halves s.dma.addr).2]
  rfl

theorem writeAddrLo_eq (s : State) (v : Byte) : writeAddrLo s v =
    putDmaAddr s (s.dma.addr.extractLsb' 8 24 ++ v) := by
  rw [← address_above_low]
  rfl

/-- Settles O46: each row reads its register or applies its write rule; a write of MODE keeps the direction or turns
the engine. -/
theorem dmaModeStatusAndAddress : Obligations.DmaModeStatusAndAddress := by
  intro s l w v he d status set addr mode
  have hstatus : regRead s .mode = (wide status, s) := congrArg (fun x => (wide x, s)) (dmaStatus_eq d)
  have writeMode : exec (.regDmaMode w) s = .next (wrote16 (writeDmaMode s mode) .dma 0x06 w) :=
    next_congr (wordRegister_wr .mode (writeDmaMode s) w he rfl rfl rfl hstatus fun _ => rfl)
  have hi : writeAddrHi s v = addr (d.addr.extractLsb' 24 8 ++ v ++ d.addr.extractLsb' 0 16) := writeAddrHi_eq s v
  have mid : writeAddrMid s v = addr (d.addr.extractLsb' 16 16 ++ v ++ d.addr.extractLsb' 0 8) := writeAddrMid_eq s v
  have lo : writeAddrLo s v = addr (d.addr.extractLsb' 8 24 ++ v) := writeAddrLo_eq s v
  rw [← hi, ← mid, ← lo]
  refine ⟨next_congr (wordRegister_rd .mode l he rfl rfl rfl hstatus),
    next_congr (access8At_rd .addrHi he rfl rfl rfl), next_congr (access8At_rd .addrMid he rfl rfl rfl),
    next_congr (access8At_rd .addrLo he rfl rfl rfl),
    next_congr (byteRegister_wr .addrHi (writeAddrHi s) v he rfl rfl fun _ => rfl),
    next_congr (byteRegister_wr .addrMid (writeAddrMid s) v he rfl rfl fun _ => rfl),
    next_congr (byteRegister_wr .addrLo (writeAddrLo s) v he rfl rfl fun _ => rfl),
    fun hheld => ?held, fun hturned => ?turned⟩
  case held =>
    rw [writeMode, writeDmaMode_held hheld]
    rfl
  case turned =>
    rw [writeMode, writeDmaMode_turned hturned]
    rfl

/-! ### Registers whose read draws on the environment (20_memory.md R90) -/

section
variable {s t : State} {b : Bank} {o : Nat} {r : Reg} {v : Word}

/-- A byte read of a bank by the CPU that leaves `t`. -/
theorem bankRead_byte_drawn {x : Byte} (he : cpuEnabled s = true) (hx : regReadByte s b o = (x, t)) :
    bankRead s b o .byte = read8 t b o x := by
  have hc : t.cfg = s.cfg := (congrArg (·.2.cfg) hx).symm.trans (regReadByte_cfg s b o)
  unfold bankRead read8 cpuRead
  rw [whenCpu_enabled he]
  simp only [(txRead_bank s .cpu _ _ b o).1, hx, hc]
  rfl

theorem bankRead_word_drawn {x : Word} (he : cpuEnabled s = true) (hx : regReadWord s b o = (x, t)) :
    bankRead s b o .word = cpuRead t b o .word x := by
  have hc : t.cfg = s.cfg := (congrArg (·.2.cfg) hx).symm.trans (regReadWord_cfg s b o)
  unfold bankRead cpuRead
  rw [whenCpu_enabled he]
  simp only [(txRead_bank s .cpu _ _ b o).2, hx, hc]
  rfl

/-- A read of a two-byte register, of any lane, draws its word once. -/
theorem wordRegister_rd_drawn (r : Reg) (l : Lane) (he : cpuEnabled s = true) (hr : regAt b o = some (r, 0))
    (hr' : regAt b (o + 1) = some (r, 1)) (h2 : regSize r = 2) (hx : regRead s r = (wide v, t)) :
    access16At s b o (.rd l) = read16 t b o v l := by
  cases l with
  | hi => exact bankRead_byte_drawn he (by simp only [laneAccess, regReadByte, hr, hx, h2, regByte_two_hi])
  | lo => exact bankRead_byte_drawn he (by simp only [laneAccess, regReadByte, hr', hx, h2, regByte_two_lo])
  | both =>
    refine bankRead_word_drawn he ?_
    simp only [laneAccess, regReadWord, hr, hr', hx, h2, if_true, regByte_two_hi, regByte_two_lo, mkWord_bytes]

/-- A write of one byte of a two-byte register draws the word it merges with (20_memory.md R89). -/
theorem wordRegister_wr_drawn (r : Reg) (f : Word → State) (w : Wr16) (hw : ∀ x, w ≠ .both x)
    (he : cpuEnabled s = true) (hr : regAt b o = some (r, 0)) (hr' : regAt b (o + 1) = some (r, 1))
    (h2 : regSize r = 2) (hx : regRead s r = (wide v, t)) (hf : ∀ x, regWrite t r x = f (x.setWidth 16)) :
    access16At s b o (.wr w) = wrote16 (f (merged v w)) b o w := by
  have h21 : ¬ 2 = 1 := by decide
  cases w with
  | hi x =>
    refine bankWrite_byte he ?_
    simp only [regWriteByte, hr, h2, h21, hx, if_false, hf, putRegByte_two_hi, merged]
  | lo x =>
    refine bankWrite_byte he ?_
    simp only [regWriteByte, hr', h2, h21, hx, if_false, hf, putRegByte_two_lo, merged]
  | both x => exact absurd rfl (hw x)

/-- A write of a two-byte register whole reads nothing (20_memory.md R89). -/
theorem wordRegister_wr_both (r : Reg) (f : Word → State) (x : Word) (he : cpuEnabled s = true)
    (hr : regAt b o = some (r, 0)) (hr' : regAt b (o + 1) = some (r, 1)) (h2 : regSize r = 2)
    (hf : ∀ x, regWrite s r x = f (x.setWidth 16)) :
    access16At s b o (.wr (.both x)) = wrote16 (f x) b o (.both x) :=
  bankWrite_word he (by simp only [regWriteWord, hr, hr', h2, if_true, hf, wide_setWidth])

end

/-! ### The data port (R384, R385) -/

theorem exec_dataRow {acc : Acc16 → Instr} (h : acc = Instr.regDmaDataCount ∨ acc = Instr.regDmaDataController)
    (x : Acc16) (s : State) : exec (acc x) s = .next (access16At s .dma 0x04 x) := by
  rcases h with rfl | rfl <;> rfl

/-- The controller's next answer: the one the environment has fixed, else a free value (entry 11). -/
theorem drawCtrl_eq (s : State) (ca : BitVec 2) :
    drawCtrl s ca = (s.env.ctrl.headD (Config.ctrlValue s.env.draws), handed (tookCtrl s) (.ctrlRead ca)) := by
  rcases s with ⟨_, _, _, _, _, _, _, _, _, _, ⟨_, ctrl, _, _, _⟩, _, _⟩
  cases ctrl with
  | nil => rfl
  | cons c rest => rfl

section
variable {s : State}

theorem regRead_data_count (h : dmaScSel s.dma = true) :
    regRead s .data = (wide (byteToWord s.dma.sectorCount), s) := by
  simp [regRead, readDmaData, h]

theorem regRead_data_controller (h : dmaScSel s.dma = false) :
    regRead s .data = (wide (s.env.ctrl.headD (Config.ctrlValue s.env.draws)),
      handed (tookCtrl s) (.ctrlRead (dmaCa s.dma))) := by
  simp [regRead, readDmaData, h, drawCtrl_eq]

/-- The sector counter written, and the engine's line with it (R384, R411). -/
theorem writeDmaData_count (v : Word) (h : dmaScSel s.dma = true) :
    writeDmaData s v = lineMoved (s.withDma { s.dma with sectorCount := loByte v }) s.cfg.dmaGpio (loByte v != 0) :=
  (if_pos h).trans (lineUpdate_eq _)

theorem writeDmaData_controller (v : Word) (h : dmaScSel s.dma = false) :
    writeDmaData s v = handed s (.ctrlWrite (dmaCa s.dma) v) :=
  if_neg (Bool.eq_false_iff.mp h)

end

/-- Settles O47: both rows are accesses of the register `data`, whose rules follow SC_SEL. -/
theorem dmaDataPort : Obligations.DmaDataPort := by
  intro s acc he hrow d ca
  have row (x : Acc16) := exec_dataRow hrow x s
  refine ⟨fun hsel => ⟨fun l => ?_, fun w => ?_⟩, fun hsel => ⟨fun v => ?_, ?_⟩⟩
  · rw [row, wordRegister_rd .data l he rfl rfl rfl (regRead_data_count hsel)]
  · rw [row, wordRegister_wr .data (writeDmaData s) w he rfl rfl rfl (regRead_data_count hsel) fun _ => rfl,
      writeDmaData_count _ hsel]
    rfl
  · rw [row, wordRegister_wr_both .data (writeDmaData s) v he rfl rfl rfl fun _ => rfl, writeDmaData_controller v hsel]
    rfl
  · let c := s.env.ctrl.headD (Config.ctrlValue s.env.draws)
    refine ⟨c, fun x hx => ?_, ?_⟩
    · rw [show c = _ from List.headD_eq_head?_getD, hx, Option.getD_some]
    intro s1
    have drawn : regRead s .data = (wide c, s1) := regRead_data_controller hsel
    have byteWrite (w : Wr16) (hw : ∀ x, w ≠ .both x) :
        exec (acc (.wr w)) s = .next (wrote16 (handed s1 (.ctrlWrite ca (merged c w))) .dma 0x04 w) := by
      rw [row, wordRegister_wr_drawn .data (writeDmaData s1) w hw he rfl rfl rfl drawn fun _ => rfl,
        writeDmaData_controller (s := s1) _ hsel]
      rfl
    refine ⟨fun l => ?_, fun v => byteWrite (.hi v) nofun, fun v => byteWrite (.lo v) nofun⟩
    rw [row, wordRegister_rd_drawn .data l he rfl rfl rfl drawn]

end Sys2Proof.Machine
end

section
/-! The codes of the formats DMA_MODE, SHIFT_MODE, SYNC, SND_RATE and SND_CTRL (30_encoding.md R124 to R127): each row
writes its field by the register's rule. -/

namespace Sys2Proof.Machine

/-! ### The direction of the DMA engine (44_dma.md R381, R390, R391) -/

/-- A bit set to the level it has. -/
theorem putBit_self {w i : Nat} {v : BitVec w} {b : Bool} (hi : i < w) (h : v.getLsbD i = b) : putBit v i b = v := by
  refine BitVec.eq_of_getLsbD_eq fun j _ => ?_
  rw [getLsbD_putBit v hi]
  split
  next hj => rw [hj, h]
  next => rfl

/-- MODE with DIR set to a level reads that level at DIR. -/
theorem dir_putBit (mode : Word) (dir : Bool) : (putBit mode 8 dir).getLsbD 8 = dir := by
  rw [getLsbD_putBit mode (by decide), if_pos rfl]

theorem selectDir_held {s : State} {dir : Bool} (h : dmaDir s.dma = dir) : selectDir s dir = s := by
  rw [selectDir, writeDmaMode_held ((dir_putBit _ dir).trans h.symm), putBit_self (by decide) h]
  rfl

theorem selectDir_turned {s : State} {dir : Bool} (h : dmaDir s.dma ≠ dir) : selectDir s dir = lineMoved
    (s.withDma { Dma.reset with mode := putBit s.dma.mode 8 dir, addr := s.dma.addr, idx := if dir then 16 else 0 })
    s.cfg.dmaGpio false := by
  have turned : (putBit s.dma.mode 8 dir).getLsbD 8 ≠ dmaDir s.dma := by
    rw [dir_putBit]
    exact h.symm
  rw [selectDir, writeDmaMode_turned turned, dir_putBit]

/-! ### Frequency (45_video.md R449) -/

/-- FREQ is bit 1 of SYNC, whose bit 0 is kept. -/
theorem freq_written (sync : BitVec 2) (f : Bool) :
    ((putBit sync 1 f).setWidth 8 : Byte).extractLsb' 0 2 = BitVec.ofBool f ++ sync.extractLsb' 0 1 := by
  revert sync f
  decide

theorem selectFreq_eq (s : State) (f : Bool) : selectFreq s f =
    { s with vid := { s.vid with sync := BitVec.ofBool f ++ s.vid.sync.extractLsb' 0 1 } } := by
  rw [← freq_written]
  rfl

/-! ### SND_CTRL (45_video.md R457) -/

section
variable {s : State} {v : Byte}

theorem writeSndCtrl_same (h : s.snd.en = v.getLsbD 0) : writeSndCtrl s v = s := by
  have neither {x y : Bool} (hxy : x ≠ y) : ¬ (s.snd.en = x ∧ s.snd.en = y) :=
    fun ⟨hx, hy⟩ => hxy (hx.symm.trans hy)
  unfold writeSndCtrl
  rw [← h]
  exact (if_neg (neither Bool.false_ne_true)).trans (if_neg (neither Bool.false_ne_true.symm))

theorem writeSndCtrl_on (h : s.snd.en = false) (hv : v.getLsbD 0 = true) : writeSndCtrl s v =
    scheduled (s.withSnd { s.snd with en := true }) .sndDrain
      (some (s.sched.now + samplePeriod s.cfg s.snd.rate)) := by
  unfold writeSndCtrl
  rw [hv]
  exact if_pos ⟨h, rfl⟩

theorem writeSndCtrl_off (h : s.snd.en = true) (hv : v.getLsbD 0 = false) : writeSndCtrl s v =
    scheduled (s.withSnd { s.snd with en := false }) .sndDrain none := by
  unfold writeSndCtrl
  rw [hv]
  exact (if_neg fun hon => Bool.false_ne_true hon.2).trans (if_pos ⟨h, rfl⟩)

end

/-- Settles O52: each code's row is the write rule of its field's register. -/
theorem directionPictureAndSoundCodes : Obligations.DirectionPictureAndSoundCodes := by
  refine ⟨fun s => ⟨fun hread => ?toMemory, fun hwrite => ?toDisk⟩, fun s => ⟨fun i r hrow => ?resolution,
    fun i f hrow => ?frequency, fun i r hrow => ?rate, fun hoff => ?soundOff, fun hon => ?soundOn⟩⟩
  case toMemory =>
    exact ⟨next_congr (selectDir_held hread),
      next_congr (selectDir_turned (dir := true) fun h => Bool.false_ne_true (hread.symm.trans h))⟩
  case toDisk =>
    exact ⟨next_congr (selectDir_held hwrite),
      next_congr (selectDir_turned (dir := false) fun h => Bool.false_ne_true (h.symm.trans hwrite))⟩
  case resolution =>
    refine ⟨linePos s, linePos_of_le, ?_⟩
    simp only [List.mem_cons, Prod.mk.injEq, List.not_mem_nil, or_false] at hrow
    rcases hrow with ⟨rfl, rfl⟩ | ⟨rfl, rfl⟩ | ⟨rfl, rfl⟩ | ⟨rfl, rfl⟩ <;> rfl
  case frequency =>
    simp only [List.mem_cons, Prod.mk.injEq, List.not_mem_nil, or_false] at hrow
    rcases hrow with ⟨rfl, rfl⟩ | ⟨rfl, rfl⟩
    · exact next_congr (selectFreq_eq s false)
    · exact next_congr (selectFreq_eq s true)
  case rate =>
    simp only [List.mem_cons, Prod.mk.injEq, List.not_mem_nil, or_false] at hrow
    rcases hrow with ⟨rfl, rfl⟩ | ⟨rfl, rfl⟩ | ⟨rfl, rfl⟩ | ⟨rfl, rfl⟩ <;> rfl
  case soundOff => exact ⟨next_congr (writeSndCtrl_same hoff), next_congr (writeSndCtrl_on hoff rfl)⟩
  case soundOn => exact ⟨next_congr (writeSndCtrl_same hon), next_congr (writeSndCtrl_off hon rfl)⟩

end Sys2Proof.Machine
end

section
/-! The scanline events, the sound FIFO and the registers of video and sound (45_video.md R430 to R458). -/

namespace Sys2Proof.Machine

/-! ### VID_LINE (R434, R439) -/

/-- The bounds are latched for the line and its events scheduled in the order of R439. -/
theorem latchAndArm_eq (s : State) (m : VideoMode) (line t : Nat) :
    latchAndArm (s.withVid { s.vid with line := line, lineStart := t }) m t =
      lineArmed s (videoTiming s.cfg m) line t := by
  have latched : (boundsOf (videoTiming s.cfg m) line).pic =
      decide ((videoTiming s.cfg m).picFirst ≤ line ∧ line ≤ (videoTiming s.cfg m).picLast) :=
    (Bool.decide_and ..).symm
  simp only [latchAndArm, lineArmed, schedule_eq, ← latched]
  rfl

/-- Settles O30: the callback arms the line after the current one in the mode of the moment. -/
theorem scanlineCallback : Obligations.ScanlineCallback :=
  fun s t => latchAndArm_eq s (videoMode s.vid) _ t

/-! ### The event input of a timer (43_mfp.md R335) -/

section
variable {s : State} {ab : TimerAB} {v : Bool}

/-- An edge that counts without reaching 0. -/
theorem timerInput_counts (hlevel : inputLevel s.mfp ab ≠ v) (hedge : v = s.mfp.aer.getLsbD (inputEdgeBit ab))
    (hmode : (s.timer (timerOfAB ab)).ctrl = 8) (hc : (s.timer (timerOfAB ab)).cnt - 1 ≠ 0) :
    timerInput s ab v =
      let s1 := s.withMfp (putInputLevel s.mfp ab v)
      setTimer s1 (timerOfAB ab) { s1.timer (timerOfAB ab) with cnt := (s.timer (timerOfAB ab)).cnt - 1 } :=
  (if_pos ⟨hlevel, hedge, timerClass_eq_event_iff.mpr hmode⟩).trans (if_neg hc)

/-- An edge that counts to 0: the occurrence, then the reload. -/
theorem timerInput_reaches_zero (hlevel : inputLevel s.mfp ab ≠ v)
    (hedge : v = s.mfp.aer.getLsbD (inputEdgeBit ab)) (hmode : (s.timer (timerOfAB ab)).ctrl = 8)
    (hc : (s.timer (timerOfAB ab)).cnt - 1 = 0) :
    timerInput s ab v =
      let s2 := occurred (s.withMfp (putInputLevel s.mfp ab v)) (timerSource (timerOfAB ab))
      setTimer s2 (timerOfAB ab) { s2.timer (timerOfAB ab) with cnt := (s2.timer (timerOfAB ab)).data } := by
  rw [← mfpEvent_eq]
  exact (if_pos ⟨hlevel, hedge, timerClass_eq_event_iff.mpr hmode⟩).trans (if_pos hc)

/-- Every other write of the level is kept and does nothing else. -/
theorem timerInput_quiet
    (h : inputLevel s.mfp ab = v ∨ v ≠ s.mfp.aer.getLsbD (inputEdgeBit ab) ∨ (s.timer (timerOfAB ab)).ctrl ≠ 8) :
    timerInput s ab v = s.withMfp (putInputLevel s.mfp ab v) := by
  refine if_neg fun ⟨hlevel, hedge, hmode⟩ => ?_
  rcases h with h | h | h
  · exact hlevel h
  · exact h hedge
  · exact h (timerClass_eq_event_iff.mp hmode)

end

/-- The two callbacks of the display window set `de` and drive timer B's input with it (R435, R436). -/
theorem callback_displayEnable (s : State) (t : Nat) (v : Bool) :
    callback s (if v then .vidDeOn else .vidDeOff) t = timerInput (s.withVid { s.vid with de := v }) .b v := by
  cases v <;> rfl

/-- Settles O31: the level of `de` is an input of timer B, which counts, reaches 0, or is not concerned. -/
theorem displayEnableCallbacks : Obligations.DisplayEnableCallbacks := by
  intro s t v id s1 c
  rw [callback_displayEnable]
  exact ⟨fun hlevel hedge hmode hc => timerInput_counts (ab := .b) hlevel hedge hmode hc,
    fun hlevel hedge hmode hc => timerInput_reaches_zero (ab := .b) hlevel hedge hmode hc,
    fun h => timerInput_quiet (ab := .b) h⟩

/-! ### VID_HB (R437, R455): the environment's samples -/

/-- The next `n` free sample values, after `draws` values drawn (entry 11). -/
def freeSamples (draws n : Nat) : List Word := (List.range' draws n).map Config.sampleValue

@[simp] theorem length_freeSamples (draws n : Nat) : (freeSamples draws n).length = n := by simp [freeSamples]

@[simp] theorem freeSamples_zero (draws : Nat) : freeSamples draws 0 = [] := rfl

theorem freeSamples_succ (draws n : Nat) :
    freeSamples draws (n + 1) = Config.sampleValue draws :: freeSamples (draws + 1) n := rfl

/-- `s` with `need` words of the environment put into the FIFO: the fixed ones first, then free ones. -/
def refilled (s : State) (need : Nat) : State :=
  let free := freeSamples s.env.draws (need - s.env.samples.length)
  { s with
    snd := { s.snd with fifo := s.snd.fifo ++ s.env.samples.take need ++ free }
    env := { s.env with samples := s.env.samples.drop need, draws := s.env.draws + free.length } }

theorem refilled_zero (s : State) : refilled s 0 = s := by simp [refilled]

/-- Pulling one word, then `n` more. -/
theorem refilled_succ (s : State) (n : Nat) : refilled (refilled s 1) n = refilled s (n + 1) := by
  rcases hs : s.env.samples with _ | ⟨w, rest⟩
  · simp [refilled, hs, freeSamples_succ, Nat.add_comm, Nat.add_left_comm]
  · simp [refilled, hs]

/-- The word drawn from the environment goes into a FIFO that is not full (R454, R455). -/
theorem pushSample_drawSample {s : State} (h : s.snd.fifo.length ≠ 4) :
    pushSample (drawSample s).2 (drawSample s).1 = refilled s 1 := by
  rcases hs : s.env.samples with _ | ⟨w, rest⟩
  · simp [drawSample, pushSample, State.withEnv, State.withSnd, refilled, hs, h, freeSamples_succ]
  · simp [drawSample, pushSample, State.withEnv, State.withSnd, refilled, hs, h]

theorem fillFifo_pulls {s : State} (n : Nat) (h : s.snd.fifo.length < 4) :
    fillFifo (n + 1) s = fillFifo n (refilled s 1) := by
  rw [← pushSample_drawSample (Nat.ne_of_lt h)]
  exact if_pos h

theorem length_fifo_refilled_one (s : State) : (refilled s 1).snd.fifo.length = s.snd.fifo.length + 1 := by
  rcases hs : s.env.samples with _ | ⟨w, rest⟩ <;> simp [refilled, hs]

/-- The loop of R437 pulls exactly the words that are missing. -/
theorem fillFifo_eq_refilled (n : Nat) {s : State} {need : Nat} (hn : need ≤ n)
    (hlen : s.snd.fifo.length + need = 4) : fillFifo n s = refilled s need := by
  induction n generalizing s need with
  | zero =>
    obtain rfl := Nat.le_zero.mp hn
    exact (refilled_zero s).symm
  | succ n ih =>
    cases need with
    | zero => exact (if_neg (by omega)).trans (refilled_zero s).symm
    | succ k =>
      have hlen' : (refilled s 1).snd.fifo.length + k = 4 := by
        rw [length_fifo_refilled_one]
        omega
      rw [fillFifo_pulls n (by omega), ih (Nat.le_of_succ_le_succ hn) hlen', refilled_succ]

theorem vidHb_off {s : State} (h : s.snd.en = false) : vidHb s = s := if_neg (Bool.eq_false_iff.mp h)

theorem vidHb_on {s : State} (h : s.snd.en = true) (hlen : s.snd.fifo.length ≤ 4) :
    vidHb s = refilled s (4 - s.snd.fifo.length) :=
  (if_pos h).trans (fillFifo_eq_refilled 4 (Nat.sub_le ..) (Nat.add_sub_cancel' hlen))

/-! ### SND_DRAIN (R456) -/

theorem sndDrain_oldest {s : State} {w : Word} {rest : List Word} (t : Nat) (h : s.snd.fifo = w :: rest) :
    sndDrain s t = scheduled (emitSample (s.withSnd { s.snd with fifo := rest, last := w }) w) .sndDrain
      (some (t + samplePeriod s.cfg s.snd.rate)) := by
  simp only [sndDrain, h, schedule_eq]
  rfl

theorem sndDrain_empty {s : State} (t : Nat) (h : s.snd.fifo = []) :
    sndDrain s t = scheduled (emitSample s s.snd.last) .sndDrain (some (t + samplePeriod s.cfg s.snd.rate)) := by
  simp only [sndDrain, h, schedule_eq]

/-- Settles O32: the blanking window refills the FIFO, with free values where the environment has fixed too few. -/
theorem soundCallbacks : Obligations.SoundCallbacks := by
  intro s t
  refine ⟨vidHb_off, fun hen hlen => ?filled, fun w rest hfifo => sndDrain_oldest t hfifo, sndDrain_empty t⟩
  case filled => exact ⟨freeSamples s.env.draws _, length_freeSamples .., vidHb_on hen hlen⟩

/-! ### The registers of video and sound (R443 to R449, R457, R458) -/

/-- The offsets of PALETTE[n] (30_encoding.md R114). -/
theorem regAt_palette (n : BitVec 4) : regAt .vid (0x40 + 2 * n.toNat) = some (.palette n, 0) ∧
    regAt .vid (0x40 + 2 * n.toNat + 1) = some (.palette n, 1) := by
  revert n
  decide

theorem sndCtrl_value (en : Bool) : ((bit1 en).setWidth 8 : Byte) = 0#7 ++ BitVec.ofBool en := by
  revert en
  decide

/-- A write of SND_CTRL is the write rule of its register. -/
theorem exec_regSndSndCtrl_wr {s : State} (v : Byte) (he : cpuEnabled s = true) :
    exec (.regSndSndCtrl (.wr v)) s = .next (wrote8 (writeSndCtrl s v) .snd 0x01 v) :=
  next_congr (byteRegister_wr .sndCtrl (writeSndCtrl s) v he rfl rfl fun _ => rfl)

/-- Settles O48: each row reads its register or applies its write rule; the place of the records is `linePos`. -/
theorem videoAndSoundRegisters : Obligations.VideoAndSoundRegisters := by
  intro s l w v n he
  refine ⟨linePos s, linePos_of_le, ?_⟩
  intro colour snd1
  obtain ⟨hi, lo⟩ := regAt_palette n
  rw [exec_regSndSndCtrl_wr v he, ← sndCtrl_value]
  refine ⟨next_congr (wordRegister_rd (.palette n) l he hi lo rfl rfl),
    next_congr (wordRegister_wr (.palette n) (writePalette s n) w he hi lo rfl rfl fun _ => rfl),
    next_congr (access8At_rd .sync he rfl rfl rfl),
    next_congr (byteRegister_wr .sync (writeSync s) v he rfl rfl fun _ => rfl),
    next_congr (access8At_rd .shiftMode he rfl rfl rfl),
    next_congr (byteRegister_wr .shiftMode (writeShiftMode s) v he rfl rfl fun _ => rfl),
    next_congr (access8At_rd .hscroll he rfl rfl rfl),
    next_congr (byteRegister_wr .hscroll (writeHscroll s) v he rfl rfl fun _ => rfl),
    next_congr (access8At_rd .sndCtrl he rfl rfl rfl),
    fun hsame => ?unchanged, fun hoff hon => ?armed, fun hon hoff => ?cancelled,
    next_congr (access8At_rd .sndMode he rfl rfl rfl),
    next_congr (byteRegister_wr .sndMode (writeSndMode s) v he rfl rfl fun _ => rfl)⟩
  case unchanged => rw [writeSndCtrl_same hsame]
  case armed =>
    rw [writeSndCtrl_on hoff hon, ← hon]
    rfl
  case cancelled =>
    rw [writeSndCtrl_off hon hoff, ← hoff]
    rfl

end Sys2Proof.Machine
end

section
/-! The outcomes of 60_exceptions.md R480: every instruction ends in a next state, a CPU access with no backing device
takes the bus error (R481), and SNAP returns the dump (R500, R505). -/

namespace Sys2Proof.Machine

/-! ### A next state after every instruction -/

/-- Settles O55: a row is one of the effects of `exec_row`, ADVANCE ends under a well-formed configuration, and the
other commands and calls are next states by their definition. -/
theorem nothingStopsTheMachine : Obligations.NothingStopsTheMachine := by
  intro i s hwf
  cases hrow : isCommandOrCall i with
  | false =>
    obtain ⟨t, ht, _⟩ := exec_row i s hrow
    exact ⟨t, ht⟩
  | true =>
    cases i
    case advance =>
      obtain ⟨_, t, ht, _⟩ := advanceEnds s hwf
      exact ⟨t, ht⟩
    case restore d =>
      cases d with
      | none => exact ⟨_, rfl⟩
      | some d =>
        by_cases hcfg : d.cfg = s.cfg
        · exact ⟨_, if_pos hcfg⟩
        · exact ⟨_, if_neg hcfg⟩
    case requestBus u _ => cases u <;> exact ⟨_, rfl⟩
    case run | rdB | rdW | wrB | wrW | iack | gpio | int | tai | dbin | dbout | resetC | resetW | snap | schedule | idle
      | setGpioBit | pushSample | fire | grantDma | grantBlit | blitPhase | dmaWord => exact ⟨_, rfl⟩
    -- the rows
    all_goals cases hrow

/-! ### The bus error of a CPU access -/

/-- A bus error gives the CPU core no value: it has been reported already (R481). -/
theorem reportRead_none (w : Width) (t : State) : reportRead w (none, t) = t := rfl

/-- Settles O14: each of the four commands is one transaction with the region that no device backs. -/
theorem cpuBusErrorIsTaken : Obligations.CpuBusErrorIsTaken := by
  intro s a he hr
  refine ⟨?_, fun v => ?_, fun ha => ?_, fun v ha => ?_⟩
  · rw [exec_rdB a he, busRead_region _ hr, txRead_none, reportRead_none]
  · rw [exec_wrB a v he, busWrite_region _ _ hr, txWrite_none]
  · rw [exec_rdW he ha, busRead_region _ hr, txRead_none, reportRead_none]
  · rw [exec_wrW v he ha, busWrite_region _ _ hr, txWrite_none]

/-! ### The snapshot -/

theorem exec_snap (s : State) : exec .snap s = .next (reporting s (.dump (takeDump s))) := rfl

/-- The dump holds each timer with its live counter (R505). -/
theorem timerGet_takeDump (s : State) (id : TimerId) : timerGet (takeDump s).mfp id =
    { timerGet s.mfp id with cnt := (liveCounter s id).1, res := (liveCounter s id).2 } := by
  cases id <;> rfl

/-- Settles O22: the dump that SNAP reports is `takeDump`. -/
theorem snapReturnsTheDump : Obligations.SnapReturnsTheDump := fun s =>
  ⟨takeDump s, exec_snap s, rfl, rfl, rfl, rfl, rfl, rfl, rfl, rfl, rfl, rfl, timerGet_takeDump s⟩

end Sys2Proof.Machine
end

section
/-! The invariant `Inv` in two parts: what each unit keeps whoever owns the bus, and what ties the owner of the bus to
the burst in progress and to the blitter's phase; and `Keeps`, what an operation does that keeps the one and leaves
the other alone. -/

namespace Sys2Proof.Machine

/-! ### The parts of the invariant -/

/-- The latches, and the length of a burst, whoever owns the bus (10_state.md R24, R25, 60_exceptions.md R486). -/
structure LatchesOk (c : Config) (b : Bus) : Prop where
  addr : onBus c b.addrLatch = b.addrLatch
  data : onLatch c b.dataLatch = b.dataLatch
  txAddr : onBus c b.lastTx.address = b.lastTx.address
  txData : onLatch c b.lastTx.data = b.lastTx.data
  left : b.burstLeft ≤ 8

/-- The hardwired bits of the blitter, and one of its five phases (10_state.md R30, R31, R38). -/
structure BlitRegsOk (c : Config) (b : Blit) : Prop where
  srcXinc : b.srcXinc.getLsbD 0 = false
  srcYinc : b.srcYinc.getLsbD 0 = false
  dstXinc : b.dstXinc.getLsbD 0 = false
  dstYinc : b.dstYinc.getLsbD 0 = false
  srcAddr : addrReg c b.srcAddr = b.srcAddr
  dstAddr : addrReg c b.dstAddr = b.dstAddr
  phase : b.phase.toNat ≤ 4

/-- Every unit keeps its own part of the invariant. -/
structure PartsOk (c : Config) (m : Memory) (t : Slots) (b : Bus) (l : Blit) (p : Mfp) (d : Dma) (v : Vid) (x : Snd) :
    Prop where
  cfg : c.wf = true
  mem : m.wf = true
  slots : slotsOk t = true
  bus : LatchesOk c b
  blit : BlitRegsOk c l
  mfp : mfpOk p = true
  dma : dmaOk c d = true
  vid : vidOk c v = true
  snd : sndOk x = true

/-- The parts of a state. An operation on one unit replaces one field of the proof. -/
abbrev UnitsOk (s : State) : Prop := PartsOk s.cfg s.mem s.sched.slots s.bus s.blit s.mfp s.dma s.vid s.snd

/-- A burst is in progress exactly while the DMA engine owns the bus, and the blitter is not IDLE while it owns it
(41_bus_arbiter.md R163, R165, 42_blitter.md R222). -/
structure OwnedOk (owner : Master) (left : Nat) (phase : BitVec 3) : Prop where
  burst : owner = .dma ↔ 0 < left
  window : owner = .blit → phase ≠ phaseIdle

abbrev OwnerOk (s : State) : Prop := OwnedOk s.owner s.bus.burstLeft s.blit.phase

theorem blitOk_iff {s : State} :
    blitOk s = true ↔ BlitRegsOk s.cfg s.blit ∧ (s.owner = .blit → s.blit.phase ≠ phaseIdle) := by
  simp only [blitOk, Bool.and_eq_true, Bool.not_eq_true', beq_iff_eq, decide_eq_true_eq, Bool.and_eq_false_imp,
    beq_eq_false_iff_ne]
  constructor
  · rintro ⟨⟨⟨⟨⟨⟨⟨h1, h2⟩, h3⟩, h4⟩, h5⟩, h6⟩, h7⟩, h8⟩
    exact ⟨⟨h1, h2, h3, h4, h5, h6, h7⟩, h8⟩
  · rintro ⟨⟨h1, h2, h3, h4, h5, h6, h7⟩, h8⟩
    exact ⟨⟨⟨⟨⟨⟨⟨h1, h2⟩, h3⟩, h4⟩, h5⟩, h6⟩, h7⟩, h8⟩

theorem busOk_iff {s : State} :
    busOk s = true ↔ LatchesOk s.cfg s.bus ∧ (s.owner = .dma ↔ 0 < s.bus.burstLeft) := by
  have owned : (s.owner == .dma) = decide (0 < s.bus.burstLeft) ↔ (s.owner = .dma ↔ 0 < s.bus.burstLeft) := by
    rw [beq_eq_decide, decide_eq_decide]
  simp only [busOk, Bool.and_eq_true, beq_iff_eq, decide_eq_true_eq, owned]
  constructor
  · rintro ⟨⟨⟨⟨⟨h1, h2⟩, h3⟩, h4⟩, h5⟩, h6⟩
    exact ⟨⟨h1, h2, h3, h4, h5⟩, h6⟩
  · rintro ⟨⟨h1, h2, h3, h4, h5⟩, h6⟩
    exact ⟨⟨⟨⟨⟨h1, h2⟩, h3⟩, h4⟩, h5⟩, h6⟩

theorem inv_iff {s : State} : Inv s ↔ UnitsOk s ∧ OwnerOk s := by
  unfold Inv
  rw [busOk_iff, blitOk_iff]
  constructor
  · rintro ⟨hcfg, hmem, hslots, ⟨hbus, hburst⟩, ⟨hblit, hwindow⟩, hmfp, hdma, hvid, hsnd⟩
    exact ⟨⟨hcfg, hmem, hslots, hbus, hblit, hmfp, hdma, hvid, hsnd⟩, hburst, hwindow⟩
  · rintro ⟨⟨hcfg, hmem, hslots, hbus, hblit, hmfp, hdma, hvid, hsnd⟩, hburst, hwindow⟩
    exact ⟨hcfg, hmem, hslots, ⟨hbus, hburst⟩, ⟨hblit, hwindow⟩, hmfp, hdma, hvid, hsnd⟩

/-! ### Operations that keep the parts and leave the owner alone -/

/-- The configuration, the owner of the bus, the words left of a burst, and the blitter's phase. -/
def tenure (s : State) : Config × Master × Nat × BitVec 3 := (s.cfg, s.owner, s.bus.burstLeft, s.blit.phase)

/-- Every unit of `t` keeps its part if those of `s` do, and the owner, the burst and the phase are those of `s`. -/
structure Keeps (s t : State) : Prop where
  units : UnitsOk s → UnitsOk t
  tenure : tenure t = tenure s

theorem tenure_iff {s t : State} : tenure t = tenure s ↔
    t.cfg = s.cfg ∧ t.owner = s.owner ∧ t.bus.burstLeft = s.bus.burstLeft ∧ t.blit.phase = s.blit.phase := by
  simp only [tenure, Prod.mk.injEq]

theorem Keeps.refl (s : State) : Keeps s s := ⟨id, rfl⟩

theorem Keeps.trans {s t u : State} (h : Keeps s t) (h' : Keeps t u) : Keeps s u :=
  ⟨h'.units ∘ h.units, h'.tenure.trans h.tenure⟩

theorem Keeps.ite {s a b : State} {c : Prop} [Decidable c] (ha : Keeps s a) (hb : Keeps s b) :
    Keeps s (if c then a else b) := by
  split
  · exact ha
  · exact hb

theorem Keeps.inv {s t : State} (h : Keeps s t) (hs : Inv s) : Inv t := by
  obtain ⟨hunits, hburst, hwindow⟩ := inv_iff.mp hs
  obtain ⟨_, howner, hleft, hphase⟩ := tenure_iff.mp h.tenure
  exact inv_iff.mpr ⟨h.units hunits, howner ▸ hleft ▸ hburst, howner ▸ hphase ▸ hwindow⟩

/-! ### Slots and time -/

theorem slotsOk_iff {t : Slots} : slotsOk t = true ↔ ∀ id, (slotGet t id).oneShot = true := by
  rw [slotsOk, List.all_eq_true]
  exact ⟨fun h id => h id (mem_slotIds id), fun h id _ => h id⟩

theorem slotsOk_slotPut {t : Slots} {id : SlotId} {x : Slot} (h : slotsOk t = true) (hx : x.oneShot = true) :
    slotsOk (slotPut t id x) = true := by
  rw [slotsOk_iff] at h ⊢
  intro other
  by_cases ho : other = id
  · rw [ho, slotGet_slotPut_same, hx]
  · rw [slotGet_slotPut_other t id other x ho, h other]

theorem schedule_keeps (s : State) (id : SlotId) (due : Option Nat) : Keeps s (schedule s id due) :=
  ⟨fun h => { h with slots := slotsOk_slotPut h.slots rfl }, rfl⟩

theorem clearSlot_keeps (s : State) (id : SlotId) : Keeps s (clearSlot s id) :=
  ⟨fun h => { h with slots := slotsOk_slotPut h.slots (slotsOk_iff.mp h.slots id) }, rfl⟩

theorem advanceNow_keeps (s : State) (n : Nat) : Keeps s (advanceNow s n) := ⟨id, rfl⟩

theorem chargeIdle_keeps (s : State) (n : Nat) : Keeps s (chargeIdle s n) :=
  ⟨fun h => { h with bus := { h.bus with left := h.bus.left } }, rfl⟩

/-! ### What is no part of the invariant: the streams, the environment's answers, the waiting commands -/

theorem emitTrace_keeps (s : State) (e : TraceRec) : Keeps s (emitTrace s e) := ⟨id, rfl⟩
theorem emitReport_keeps (s : State) (r : Report) : Keeps s (emitReport s r) := ⟨id, rfl⟩
theorem emitDevice_keeps (s : State) (r : DeviceRec) : Keeps s (emitDevice s r) := ⟨id, rfl⟩
theorem turnAway_keeps (s : State) (why : Turned) : Keeps s (turnAway s why) := ⟨id, rfl⟩
theorem withEnv_keeps (s : State) (e : Env) : Keeps s (s.withEnv e) := ⟨id, rfl⟩
theorem withInbox_keeps (s : State) (q : List Request) : Keeps s (s.withInbox q) := ⟨id, rfl⟩

/-! ### The interrupt controller and the timers -/

/-- The modes a timer's control field can hold: 3 bits for timers C and D (10_state.md R49). -/
def modeFits : TimerId → BitVec 4 → Bool
  | .a, _ | .b, _ => true
  | .c, m | .d, m => !m.getLsbD 3

/-- What the invariant asks of the record of one timer. -/
def TimerHolds (id : TimerId) (x : Timer) : Prop := timerOk x = true ∧ modeFits id x.ctrl = true

theorem mfpOk_iff {m : Mfp} : mfpOk m = true ↔ m.vr &&& 7 = 0 ∧ ∀ id, TimerHolds id (timerGet m id) := by
  simp only [mfpOk, Bool.and_eq_true, beq_iff_eq]
  constructor
  · rintro ⟨⟨⟨⟨⟨⟨hvr, hc⟩, hd⟩, ha'⟩, hb'⟩, hc'⟩, hd'⟩
    refine ⟨hvr, fun id => ?_⟩
    cases id
    · exact ⟨ha', rfl⟩
    · exact ⟨hb', rfl⟩
    · exact ⟨hc', hc⟩
    · exact ⟨hd', hd⟩
  · rintro ⟨hvr, h⟩
    exact ⟨⟨⟨⟨⟨⟨hvr, (h .c).2⟩, (h .d).2⟩, (h .a).1⟩, (h .b).1⟩, (h .c).1⟩, (h .d).1⟩

theorem timerOk_iff {x : Timer} : timerOk x = true ↔ ∀ p, timerClass x.ctrl = .delay p → x.cnt = 0 ∧ x.res = 0 := by
  unfold timerOk
  split
  · next p hp => simp [hp]
  · next hp => exact ⟨fun _ p h => absurd h (hp p), fun _ => rfl⟩

theorem UnitsOk.timer {s : State} (h : UnitsOk s) (id : TimerId) : TimerHolds id (s.timer id) :=
  (mfpOk_iff.mp h.mfp).2 id

theorem mfpOk_timerPut {m : Mfp} {id : TimerId} {x : Timer} (h : mfpOk m = true) (hx : TimerHolds id x) :
    mfpOk (timerPut m id x) = true := by
  obtain ⟨hvr, htimers⟩ := mfpOk_iff.mp h
  refine mfpOk_iff.mpr ⟨?_, fun other => ?_⟩
  · cases id <;> exact hvr
  · by_cases ho : other = id
    · rw [ho, timerGet_timerPut_same]
      exact hx
    · rw [timerGet_timerPut_other m id other x ho]
      exact htimers other

theorem setTimer_keeps {s : State} {id : TimerId} {x : Timer} (hx : UnitsOk s → TimerHolds id x) :
    Keeps s (setTimer s id x) :=
  ⟨fun h => { h with mfp := mfpOk_timerPut h.mfp (hx h) }, rfl⟩

/-- The interrupt registers and the lines, which the invariant does not speak of. -/
theorem withMfp_keeps {s : State} {m : Mfp} (hvr : m.vr = s.mfp.vr)
    (htimers : ∀ id, timerGet m id = timerGet s.mfp id) : Keeps s (s.withMfp m) := by
  refine ⟨fun h => { h with mfp := ?_ }, rfl⟩
  obtain ⟨hheld, htimer⟩ := mfpOk_iff.mp h.mfp
  exact mfpOk_iff.mpr ⟨(congrArg (· &&& 7) hvr).trans hheld, fun id => htimers id ▸ htimer id⟩

theorem mfpEvent_keeps (s : State) (src : BitVec 4) : Keeps s (mfpEvent s src) := by
  obtain ⟨p, tr, h⟩ := mfpEvent_frame s src
  exact h ▸ ⟨fun hs => { hs with mfp := hs.mfp }, rfl⟩

theorem setGpioBit_keeps (s : State) (i : BitVec 3) (v : Bool) : Keeps s (setGpioBit s i v) := by
  obtain ⟨p, tr, h⟩ := setGpioBit_frame s i v
  exact h ▸ ⟨fun hs => { hs with mfp := hs.mfp }, rfl⟩

theorem takeInterrupt_keeps (s : State) (src : BitVec 4) : Keeps s (takeInterrupt s src) :=
  ⟨fun h => { h with mfp := h.mfp }, rfl⟩

theorem setMode_keeps (s : State) (id : TimerId) {m : BitVec 4} (hm : modeFits id m = true) :
    Keeps s (setMode s id m) := by
  have armed {x : Timer} (hx : timerOk x = true) (hctrl : x.ctrl = m) (due : Option Nat) :
      Keeps s (schedule (setTimer s id x) (timerSlot id) due) :=
    (setTimer_keeps fun _ => ⟨hx, hctrl ▸ hm⟩).trans (schedule_keeps _ _ _)
  obtain ⟨p, hnew, hold, h⟩ | ⟨p, _, _, h⟩ | ⟨hnew, h⟩ := setMode_cases s id m
  · -- the divider stays, so the counters stay at 0
    refine h ▸ setTimer_keeps fun hs => ⟨timerOk_iff.mpr fun _ _ => ?_, hm⟩
    obtain ⟨hcnt, hres⟩ := timerOk_iff.mp (hs.timer id).1 p hold
    exact ⟨hcnt, hres⟩
  · exact h ▸ armed (timerOk_iff.mpr fun _ _ => ⟨rfl, rfl⟩) rfl _
  · exact h ▸ armed (timerOk_iff.mpr fun q hq => absurd hq (hnew q)) rfl _

theorem underflow_keeps (s : State) (id : TimerId) (t : Nat) : Keeps s (underflow s id t) := by
  refine (mfpEvent_keeps s (timerSource id)).trans ?_
  simp only [underflow]
  split
  · exact schedule_keeps _ _ _
  · exact (withEnv_keeps _ _).trans (schedule_keeps _ _ _)

/-- A timer that counts events runs in no delay mode, so its counter may take any value (10_state.md R51). -/
theorem countEvent_keeps {s : State} {id : TimerId} (c : Byte) (h : timerClass (s.timer id).ctrl = .event) :
    Keeps s (setTimer s id { s.timer id with cnt := c }) :=
  setTimer_keeps fun hs =>
    ⟨timerOk_iff.mpr fun _ hp => TimerClass.noConfusion (h.symm.trans hp), (hs.timer id).2⟩

theorem timer_putInputLevel (s : State) (t : TimerAB) (v : Bool) (id : TimerId) :
    (s.withMfp (putInputLevel s.mfp t v)).timer id = s.timer id := by
  cases t <;> cases id <;> rfl

theorem timerInput_keeps (s : State) (t : TimerAB) (v : Bool) : Keeps s (timerInput s t v) := by
  have moved : Keeps s (s.withMfp (putInputLevel s.mfp t v)) :=
    withMfp_keeps (by cases t <;> rfl) fun id => timer_putInputLevel s t v id
  unfold timerInput
  simp only
  split
  · next hcounting =>
    obtain ⟨_, _, hevent⟩ := hcounting
    have counts : timerClass ((s.withMfp (putInputLevel s.mfp t v)).timer (timerOfAB t)).ctrl = .event :=
      (congrArg (fun x : Timer => timerClass x.ctrl) (timer_putInputLevel s t v _)).trans hevent
    refine .ite (moved.trans ((mfpEvent_keeps _ _).trans (countEvent_keeps _ ?_)))
      (moved.trans (countEvent_keeps _ counts))
    rw [mfpEvent_timer]
    exact counts
  · exact moved

/-! ### The blitter's registers -/

theorem getLsbD_evenWord (w : Word) : (evenWord w).getLsbD 0 = false := by simp [evenWord]

/-- A change of the blitter that leaves its phase. -/
theorem withBlit_keeps {s : State} {b : Blit} (hb : BlitRegsOk s.cfg s.blit → BlitRegsOk s.cfg b)
    (hphase : b.phase = s.blit.phase) : Keeps s (s.withBlit b) :=
  ⟨fun h => { h with blit := hb h.blit }, congrArg (fun p => (s.cfg, s.owner, s.bus.burstLeft, p)) hphase⟩

theorem requestBlit_keeps (s : State) : Keeps s (requestBlit s) := withBlit_keeps (fun h => { h with }) rfl

theorem blitResume_keeps (s : State) : Keeps s (blitResume s) := by
  have renewed : Keeps s (s.withBlit { s.blit with timeout := s.cfg.blitSlice }) :=
    withBlit_keeps (fun h => { h with }) rfl
  exact .ite (renewed.trans (requestBlit_keeps _)) (.refl s)

/-! ### The DMA engine -/

theorem dmaOk_iff {c : Config} {d : Dma} : dmaOk c d = true ↔
    d.idx ≤ 16 ∧ d.active ≤ 1 ∧ d.byteCnt % 16 = 0 ∧ d.byteCnt < 512 ∧ addrReg c d.addr = d.addr := by
  simp only [dmaOk, Bool.and_eq_true, decide_eq_true_eq, beq_iff_eq, and_assoc]

theorem dmaOk_trySwap {c : Config} {d : Dma} (h : dmaOk c d = true) : dmaOk c (trySwap d) = true := by
  obtain ⟨_, _, hcount, hlimit, haddr⟩ := dmaOk_iff.mp h
  obtain ⟨_, _, he⟩ | ⟨_, he⟩ := trySwap_cases d
  · exact he ▸ dmaOk_iff.mpr ⟨Nat.zero_le _, Nat.sub_le _ _, hcount, hlimit, haddr⟩
  · rwa [he]

/-- The index goes up by one, below 16 (44_dma.md R396, R400). -/
theorem dmaOk_swapIfDone {c : Config} {d : Dma} (h : dmaOk c d = true) (hidx : d.idx ≠ 16) :
    dmaOk c (swapIfDone { d with idx := d.idx + 1 }) = true := by
  obtain ⟨hle, hactive, hcount, hlimit, haddr⟩ := dmaOk_iff.mp h
  have counted : dmaOk c { d with idx := d.idx + 1 } = true :=
    dmaOk_iff.mpr ⟨Nat.succ_le_of_lt (Nat.lt_of_le_of_ne hle hidx), hactive, hcount, hlimit, haddr⟩
  unfold swapIfDone
  split
  · exact dmaOk_trySwap counted
  · exact counted

theorem dmaOk_engineIdle {c : Config} {d : Dma} (h : addrReg c d.addr = d.addr) : dmaOk c (engineIdle d) = true := by
  refine dmaOk_iff.mpr ⟨?_, Nat.zero_le 1, rfl, Nat.succ_pos 511, h⟩
  show (if dmaDir d then 16 else 0) ≤ 16
  split <;> decide

theorem withDma_keeps {s : State} {d : Dma} (hd : dmaOk s.cfg s.dma = true → dmaOk s.cfg d = true) :
    Keeps s (s.withDma d) :=
  ⟨fun h => { h with dma := hd h.dma }, rfl⟩

theorem lineUpdate_keeps (s : State) : Keeps s (lineUpdate s) := setGpioBit_keeps _ _ _

theorem putDmaAddr_keeps (s : State) (a : Addr) : Keeps s (putDmaAddr s a) := by
  refine withDma_keeps fun h => ?_
  obtain ⟨hidx, hactive, hcount, hlimit, _⟩ := dmaOk_iff.mp h
  exact dmaOk_iff.mpr ⟨hidx, hactive, hcount, hlimit, addrReg_addrReg _ _⟩

theorem writeDmaMode_keeps (s : State) (v : Word) : Keeps s (writeDmaMode s v) := by
  have written : Keeps s (s.withDma { s.dma with mode := v }) := withDma_keeps id
  have idle (t : State) : Keeps t (t.withDma (engineIdle t.dma)) := by
    refine withDma_keeps fun h => ?_
    obtain ⟨_, _, _, _, haddr⟩ := dmaOk_iff.mp h
    exact dmaOk_engineIdle haddr
  exact .ite written (written.trans ((idle _).trans (lineUpdate_keeps _)))

theorem writeDmaData_keeps (s : State) (v : Word) : Keeps s (writeDmaData s v) := by
  have counted (n : Byte) : Keeps s (s.withDma { s.dma with sectorCount := n }) := withDma_keeps id
  exact .ite ((counted _).trans (lineUpdate_keeps _)) (emitDevice_keeps _ _)

theorem diskIn_keeps (s : State) (b : Byte) : Keeps s (diskIn s b) := by
  unfold diskIn
  refine .ite (turnAway_keeps _ _) (.ite (.refl s) ?_)
  split
  · exact withDma_keeps id
  · next hidx =>
    simp only [putActiveBuf_eq_bytePlaced]
    exact withDma_keeps fun h => dmaOk_swapIfDone (d := bytePlaced s.dma b) h hidx

theorem diskOut_keeps (s : State) : Keeps s (diskOut s) := by
  have underrun : Keeps s (s.withDma { s.dma with err := true }) := withDma_keeps id
  have passed (h : s.dma.idx ≠ 16) : Keeps s (s.withDma (swapIfDone { s.dma with idx := s.dma.idx + 1 })) :=
    withDma_keeps fun hd => dmaOk_swapIfDone hd h
  unfold diskOut
  refine .ite (turnAway_keeps _ _) ?_
  split
  · exact underrun.trans (emitReport_keeps _ _)
  · next hidx => exact (passed hidx).trans (emitReport_keeps _ _)

/-! ### The video unit -/

theorem vidOk_iff {c : Config} {v : Vid} : vidOk c v = true ↔
    (∀ w ∈ v.palette.toList, w &&& ~~~c.palMask = 0) ∧ boundsOk v.bounds = true ∧ v.line < maxLines c := by
  simp only [vidOk, Bool.and_eq_true, List.all_eq_true, decide_eq_true_eq, beq_iff_eq, and_assoc]

/-- What `Config.wf` asks of the timing of a mode (45_video.md R431). -/
theorem videoTiming_wf {c : Config} (h : c.wf = true) (m : VideoMode) : (videoTiming c m).wf = true := by
  simp only [Config.wf, Bool.and_eq_true] at h
  cases m <;> simp only [videoTiming, h]

theorem boundsOk_boundsOf {v : VideoTiming} (h : v.wf = true) (line : Nat) : boundsOk (boundsOf v line) = true := by
  simp only [VideoTiming.wf, Bool.and_eq_true] at h
  obtain ⟨⟨hbounds, _⟩, _⟩ := h
  simp only [boundsOk, Bool.and_eq_true]
  exact hbounds

theorem lines_pos {v : VideoTiming} (h : v.wf = true) : 0 < v.lines := by
  simp only [VideoTiming.wf, Bool.and_eq_true, decide_eq_true_eq] at h
  exact Nat.zero_lt_of_lt h.2

theorem lines_le_maxLines (c : Config) (m : VideoMode) : (videoTiming c m).lines ≤ maxLines c := by
  unfold maxLines
  cases m <;> simp only [videoTiming] <;> omega

/-- What `PAL_MASK` lets through has no bit outside it (45_video.md R443). -/
theorem masked_outside (w mask : Word) : w &&& mask &&& ~~~mask = 0 := by simp [BitVec.and_assoc]

theorem withVid_keeps {s : State} {v : Vid} (hv : UnitsOk s → vidOk s.cfg v = true) : Keeps s (s.withVid v) :=
  ⟨fun h => { h with vid := hv h }, rfl⟩

theorem tenure_latchAndArm (s : State) (m : VideoMode) (t : Nat) : tenure (latchAndArm s m t) = tenure s := by
  simp only [latchAndArm]
  split <;> rfl

/-- Every unit but the video unit keeps its part. -/
def OthersOk (s : State) : Prop := ∀ v, vidOk s.cfg v = true → UnitsOk (s.withVid v)

/-- The bounds latched are those of a mode, so they keep the constraints of R431 whatever they were before. -/
theorem latchAndArm_units {s : State} (m : VideoMode) (t : Nat) (hcfg : s.cfg.wf = true)
    (hpalette : ∀ w ∈ s.vid.palette.toList, w &&& ~~~s.cfg.palMask = 0) (hline : s.vid.line < maxLines s.cfg)
    (hrest : OthersOk s) : UnitsOk (latchAndArm s m t) := by
  have latched : UnitsOk (s.withVid { s.vid with bounds := boundsOf (videoTiming s.cfg m) s.vid.line }) :=
    hrest _ (vidOk_iff.mpr ⟨hpalette, boundsOk_boundsOf (videoTiming_wf hcfg m) _, hline⟩)
  have armed {u : State} (hu : UnitsOk u) (id : SlotId) (due : Option Nat) : UnitsOk (schedule u id due) :=
    (schedule_keeps u id due).units hu
  simp only [latchAndArm]
  refine armed ?_ .vidHb _
  split
  · exact armed (armed (armed latched _ _) _ _) _ _
  · exact armed latched _ _

theorem vidLine_keeps (s : State) (t : Nat) : Keeps s (vidLine s t) := by
  refine ⟨fun h => ?_, tenure_latchAndArm _ _ _⟩
  obtain ⟨hpalette, _, _⟩ := vidOk_iff.mp h.vid
  refine latchAndArm_units _ t h.cfg hpalette ?_ fun v hv => { h with vid := hv }
  have hlines := lines_le_maxLines s.cfg (videoMode s.vid)
  have hpos := lines_pos (videoTiming_wf h.cfg (videoMode s.vid))
  show (if (videoTiming s.cfg (videoMode s.vid)).lines ≤ s.vid.line + 1 then 0 else s.vid.line + 1) < maxLines s.cfg
  split <;> omega

theorem writePalette_keeps (s : State) (n : BitVec 4) (v : Word) : Keeps s (writePalette s n v) := by
  have masked (w : Word) (hw : w &&& ~~~s.cfg.palMask = 0) :
      Keeps s (s.withVid { s.vid with palette := tablePut s.vid.palette n w }) := by
    refine withVid_keeps fun h => ?_
    obtain ⟨hpalette, hbounds, hline⟩ := vidOk_iff.mp h.vid
    refine vidOk_iff.mpr ⟨fun x hx => ?_, hbounds, hline⟩
    rw [tablePut, Vector.toList_set] at hx
    rcases List.mem_or_eq_of_mem_set hx with hx | rfl
    · exact hpalette x hx
    · exact hw
  exact ⟨(masked _ (masked_outside v _)).units, rfl⟩

/-! ### The sound unit -/

theorem sndOk_iff {x : Snd} : sndOk x = true ↔ x.fifo.length ≤ 4 := decide_eq_true_iff

theorem withSnd_keeps {s : State} {x : Snd} (hx : sndOk s.snd = true → sndOk x = true) : Keeps s (s.withSnd x) :=
  ⟨fun h => { h with snd := hx h.snd }, rfl⟩

theorem pushSample_keeps (s : State) (w : Word) : Keeps s (pushSample s w) := by
  unfold pushSample
  split
  · exact .refl s
  · next hroom =>
    refine withSnd_keeps fun h => sndOk_iff.mpr ?_
    have hlen := sndOk_iff.mp h
    rw [List.length_append, List.length_singleton]
    omega

theorem drawSample_keeps (s : State) : Keeps s (drawSample s).2 := by
  unfold drawSample
  split <;> exact withEnv_keeps _ _

theorem fillFifo_keeps (n : Nat) (s : State) : Keeps s (fillFifo n s) := by
  induction n generalizing s with
  | zero => exact .refl s
  | succ n ih => exact .ite ((drawSample_keeps s).trans ((pushSample_keeps _ _).trans (ih _))) (.refl s)

theorem sndDrain_keeps (s : State) (t : Nat) : Keeps s (sndDrain s t) := by
  have emitted (u : State) (w : Word) : Keeps u (emitSample u w) := ⟨id, rfl⟩
  have drained {u : State} (h : Keeps s u) (w : Word) (due : Option Nat) :
      Keeps s (schedule (emitSample u w) .sndDrain due) :=
    (h.trans (emitted u w)).trans (schedule_keeps _ _ _)
  unfold sndDrain
  split
  · next w rest hfifo =>
    refine drained (withSnd_keeps fun h => sndOk_iff.mpr ?_) _ _
    have hlen := sndOk_iff.mp h
    rw [hfifo, List.length_cons] at hlen
    exact Nat.le_of_succ_le hlen
  · exact drained (.refl s) _ _

theorem writeSndCtrl_keeps (s : State) (v : Byte) : Keeps s (writeSndCtrl s v) := by
  have written : Keeps s (s.withSnd { s.snd with en := v.getLsbD 0 }) := withSnd_keeps id
  have armed (due : Option Nat) := written.trans (schedule_keeps _ .sndDrain due)
  exact .ite (armed _) (.ite (armed _) written)

end Sys2Proof.Machine
end

section
/-! Bus transactions and the steps of the units keep the invariant: the register banks, the callbacks of the scheduler,
the phases of the blitter, the words of a burst, and the resets. A transaction of the CPU or of the DMA engine may put
the blitter's phase to IDLE by a write of CTRL, so it is followed under the weaker `Serves`. -/

namespace Sys2Proof.Machine

/-! ### Operations that keep the parts and the owner, but not the blitter's phase -/

/-- The configuration, the owner of the bus, and the words left of a burst. -/
def custody (s : State) : Config × Master × Nat := (s.cfg, s.owner, s.bus.burstLeft)

/-- Every unit of `t` keeps its part if those of `s` do, and the owner and the burst are those of `s`. -/
structure Serves (s t : State) : Prop where
  units : UnitsOk s → UnitsOk t
  custody : custody t = custody s

theorem custody_iff {s t : State} : custody t = custody s ↔
    t.cfg = s.cfg ∧ t.owner = s.owner ∧ t.bus.burstLeft = s.bus.burstLeft := by
  simp only [custody, Prod.mk.injEq]

theorem custody_of_tenure {s t : State} (h : tenure t = tenure s) : custody t = custody s := by
  obtain ⟨hcfg, howner, hleft, _⟩ := tenure_iff.mp h
  exact custody_iff.mpr ⟨hcfg, howner, hleft⟩

theorem Keeps.serves {s t : State} (h : Keeps s t) : Serves s t := ⟨h.units, custody_of_tenure h.tenure⟩

theorem Serves.trans {s t u : State} (h : Serves s t) (h' : Serves t u) : Serves s u :=
  ⟨h'.units ∘ h.units, h'.custody.trans h.custody⟩

theorem Serves.ite {s a b : State} {c : Prop} [Decidable c] (ha : Serves s a) (hb : Serves s b) :
    Serves s (if c then a else b) := by
  split
  · exact ha
  · exact hb

theorem Keeps.cfg {s t : State} (h : Keeps s t) : t.cfg = s.cfg := (tenure_iff.mp h.tenure).1

theorem Serves.cfg {s t : State} (h : Serves s t) : t.cfg = s.cfg := (custody_iff.mp h.custody).1

/-- While the blitter does not own the bus, its phase does not matter. -/
theorem Serves.inv {s t : State} (h : Serves s t) (howner : s.owner ≠ .blit) (hs : Inv s) : Inv t := by
  obtain ⟨hunits, hburst, _⟩ := inv_iff.mp hs
  obtain ⟨_, ho, hleft⟩ := custody_iff.mp h.custody
  exact inv_iff.mpr ⟨h.units hunits, ho ▸ hleft ▸ hburst, fun hblit => absurd (ho ▸ hblit) howner⟩

/-! ### The register rules -/

theorem regRead_keeps (s : State) (r : Reg) : Keeps s (regRead s r).2 := by
  cases r
  case data =>
    simp only [regRead, readDmaData, drawCtrl]
    split
    · exact .refl s
    · split <;> exact ⟨id, rfl⟩
  all_goals exact .refl s

theorem regReadByte_keeps (s : State) (b : Bank) (o : Nat) : Keeps s (regReadByte s b o).2 := by
  unfold regReadByte
  split
  · exact .refl s
  · exact regRead_keeps s _

theorem regReadWord_keeps (s : State) (b : Bank) (o : Nat) : Keeps s (regReadWord s b o).2 := by
  have two := (regReadByte_keeps s b o).trans (regReadByte_keeps (regReadByte s b o).2 b (o + 1))
  unfold regReadWord
  split
  · split
    · exact regRead_keeps s _
    · exact two
  · exact two

theorem writeTimerData_keeps (s : State) (id : TimerId) (v : Byte) : Keeps s (writeTimerData s id v) := by
  unfold writeTimerData
  split
  · next hstopped =>
    exact setTimer_keeps fun h =>
      ⟨timerOk_iff.mpr fun _ hp => TimerClass.noConfusion (hstopped.symm.trans hp), (h.timer id).2⟩
  · exact setTimer_keeps fun h => ⟨timerOk_iff.mpr fun p hp => timerOk_iff.mp (h.timer id).1 p hp, (h.timer id).2⟩

theorem modeFits_threeBits (id : TimerId) (m : BitVec 3) : modeFits id (m.setWidth 4) = true := by
  cases id
  case a | b => rfl
  case c | d =>
    revert m
    decide

theorem heldVrBits (v : Byte) : v &&& 0xF8 &&& 7 = 0 := by
  rw [BitVec.and_assoc]
  exact BitVec.and_zero

theorem writeVr_keeps (s : State) (v : Byte) : Keeps s (writeVr s v) := by
  refine ⟨fun h => { h with mfp := ?_ }, rfl⟩
  obtain ⟨_, htimers⟩ := mfpOk_iff.mp h.mfp
  exact mfpOk_iff.mpr ⟨heldVrBits v, fun id => by cases id <;> exact htimers _⟩

/-- Every write rule but that of CTRL leaves the blitter's phase. -/
theorem regWrite_keeps {r : Reg} (hr : r ≠ .ctrl) (s : State) (v : BitVec 32) : Keeps s (regWrite s r v) := by
  cases r <;> simp only [regWrite]
  case ctrl => exact absurd rfl hr
  case srcXinc => exact withBlit_keeps (fun h => { h with srcXinc := getLsbD_evenWord _ }) rfl
  case srcYinc => exact withBlit_keeps (fun h => { h with srcYinc := getLsbD_evenWord _ }) rfl
  case dstXinc => exact withBlit_keeps (fun h => { h with dstXinc := getLsbD_evenWord _ }) rfl
  case dstYinc => exact withBlit_keeps (fun h => { h with dstYinc := getLsbD_evenWord _ }) rfl
  case srcAddr => exact withBlit_keeps (fun h => { h with srcAddr := addrReg_addrReg _ _ }) rfl
  case dstAddr => exact withBlit_keeps (fun h => { h with dstAddr := addrReg_addrReg _ _ }) rfl
  case halftone | endmask1 | endmask2 | endmask3 | xCount | yCount | hop | op | skew =>
    exact withBlit_keeps (fun h => { h with }) rfl
  case gpip | aer | ddr | iera | ierb | ipra | iprb | isra | isrb | imra | imrb =>
    exact withMfp_keeps rfl fun id => by cases id <;> rfl
  case vr => exact writeVr_keeps _ _
  case tacr | tbcr => exact setMode_keeps _ _ rfl
  case tcdcr => exact (setMode_keeps _ .c (modeFits_threeBits _ _)).trans (setMode_keeps _ .d (modeFits_threeBits _ _))
  case tadr | tbdr | tcdr | tddr => exact writeTimerData_keeps _ _ _
  case data => exact writeDmaData_keeps _ _
  case mode => exact writeDmaMode_keeps _ _
  case addrHi | addrMid | addrLo => exact putDmaAddr_keeps _ _
  case sync | shiftMode | hscroll => exact ⟨fun h => { h with vid := h.vid }, rfl⟩
  case palette => exact writePalette_keeps _ _ _
  case sndCtrl => exact writeSndCtrl_keeps _ _
  case sndMode => exact withSnd_keeps id

/-- Start, restart and abort leave the blitter's registers well formed (42_blitter.md R211 to R213). -/
theorem writeBlitCtrl_units {s : State} (v : Byte) (h : UnitsOk s) : UnitsOk (writeBlitCtrl s v) := by
  have fields : UnitsOk (s.withBlit (ctrlFields s.blit v)) := { h with blit := { h.blit with phase := h.blit.phase } }
  rw [writeBlitCtrl_eq]
  generalize s.withBlit (ctrlFields s.blit v) = t at fields
  have renewed {u : State} (hu : UnitsOk u) (n : Nat) : UnitsOk (u.withBlit { u.blit with timeout := n }) :=
    { hu with blit := { hu.blit with phase := hu.blit.phase } }
  have idle {b : Blit} (hb : b = { t.blit with
      busy := b.busy, done := b.done, windows := b.windows, request := b.request, timeout := b.timeout,
      phase := phaseIdle }) : UnitsOk (t.withBlit b) := by
    refine { fields with blit := ?_ }
    rw [State.withBlit_blit, hb]
    exact { fields.blit with phase := Nat.zero_le 4 }
  have restart : UnitsOk (blitRestart t) :=
    (requestBlit_keeps _).units (renewed ((schedule_keeps t .blitResume none).units fields) _)
  have start : UnitsOk (blitStart t) := (requestBlit_keeps _).units ((setGpioBit_keeps _ _ _).units (idle rfl))
  have abort : UnitsOk (blitAbort t) :=
    (setGpioBit_keeps _ _ _).units ((schedule_keeps _ .blitResume none).units (idle rfl))
  split
  · split
    · exact restart
    · exact start
  · split
    · exact abort
    · exact fields

theorem regWrite_unitsOk {s : State} (r : Reg) (v : BitVec 32) (h : UnitsOk s) : UnitsOk (regWrite s r v) := by
  by_cases hr : r = .ctrl
  · exact hr ▸ writeBlitCtrl_units _ h
  · exact (regWrite_keeps hr s v).units h

theorem regWrite_bus (s : State) (r : Reg) (v : BitVec 32) : (regWrite s r v).bus = s.bus := by
  change (regWrite (s.withBus s.bus) r v).bus = s.bus
  rw [regWrite_withBus]
  rfl

theorem regWrite_serves (s : State) (r : Reg) (v : BitVec 32) : Serves s (regWrite s r v) := by
  obtain ⟨_, _, howner⟩ := regWrite_units s r v
  exact ⟨regWrite_unitsOk r v,
    custody_iff.mpr ⟨regWrite_cfg s r v, howner, congrArg Bus.burstLeft (regWrite_bus s r v)⟩⟩

theorem regWriteByte_serves (s : State) (b : Bank) (o : Nat) (v : Byte) : Serves s (regWriteByte s b o v) := by
  unfold regWriteByte
  split
  · exact (Keeps.refl s).serves
  · exact .ite (regWrite_serves _ _ _) ((regRead_keeps s _).serves.trans (regWrite_serves _ _ _))

theorem regWriteWord_serves (s : State) (b : Bank) (o : Nat) (v : Word) : Serves s (regWriteWord s b o v) := by
  have two := (regWriteByte_serves s b o (hiByte v)).trans
    (regWriteByte_serves (regWriteByte s b o (hiByte v)) b (o + 1) (loByte v))
  unfold regWriteWord
  split
  · exact .ite (.ite (regWrite_serves _ _ _) ((regRead_keeps s _).serves.trans (regWrite_serves _ _ _))) two
  · exact two

/-! ### Transactions (41_bus_arbiter.md R169 to R171) -/

section
variable {s t : State} {u : Master} {a : Addr} {v : Word} {w : Width} {d : Dir} {ticks : Nat}

/-- The latches of a transaction hold what goes on the bus. -/
theorem transacted_units (ht : UnitsOk t) (ha : onBus t.cfg a = a) (hv : onLatch t.cfg v = v) :
    UnitsOk (transacted t u a v w d ticks) :=
  { ht with bus := ⟨ha, hv, ha, hv, ht.bus.left⟩ }

theorem Keeps.transacted (h : Keeps s t) (ha : onBus s.cfg a = a) (hv : UnitsOk s → onLatch s.cfg v = v) :
    Keeps s (transacted t u a v w d ticks) :=
  ⟨fun hs => transacted_units (h.units hs) (h.cfg ▸ ha) (h.cfg ▸ hv hs), h.tenure⟩

theorem Serves.transacted (h : Serves s t) (ha : onBus s.cfg a = a) (hv : onLatch s.cfg v = v) :
    Serves s (transacted t u a v w d ticks) :=
  ⟨fun hs => transacted_units (h.units hs) (h.cfg ▸ ha) (h.cfg ▸ hv), h.custody⟩

end

theorem txRead_keeps (s : State) (u : Master) {a : Addr} (p : Addr) (r : Region) (w : Width)
    (ha : onBus s.cfg a = a) : Keeps s (txRead s u a p r w).2 := by
  have latched {t : State} (h : Keeps s t) (v : Word) (x : Width) (n : Nat) :
      Keeps s (transacted t u a (onLatch s.cfg v) x .read n) := h.transacted ha fun _ => onLatch_onLatch _ _
  cases r with
  | bank b o =>
    cases w with
    | byte => exact (txRead_bank s u a p b o).1 ▸ latched (regReadByte_keeps s b o) _ _ _
    | word => exact (txRead_bank s u a p b o).2 ▸ latched (regReadWord_keeps s b o) _ _ _
  | ram =>
    cases w with
    | byte => exact (txRead_ram s u a p).1 ▸ latched (.refl s) _ _ _
    | word => exact (txRead_ram s u a p).2 ▸ latched (.refl s) _ _ _
  | ext =>
    have drawn (x : Width) : Keeps s (handed (tookExt s) (.extRead p x)) := ⟨id, rfl⟩
    cases w with
    | byte => exact txRead_ext_byte s u a p ▸ latched (drawn .byte) _ _ _
    | word => exact txRead_ext s u a p ▸ latched (drawn .word) _ _ _
  | none =>
    have failed : Keeps s (transacted s u a s.bus.dataLatch w .read s.cfg.tBerr) :=
      (Keeps.refl s).transacted ha fun h => h.bus.data
    exact txRead_none s u a p w ▸ failed.trans (emitReport_keeps _ _)

theorem txWrite_serves (s : State) (u : Master) {a : Addr} (p : Addr) (r : Region) (w : Width) (v : Word)
    (ha : onBus s.cfg a = a) : Serves s (txWrite s u a p r w v) := by
  have latched {t : State} (h : Serves s t) (x : Width) (n : Nat) :
      Serves s (transacted t u a (onLatch s.cfg v) x .write n) := h.transacted ha (onLatch_onLatch _ _)
  have stored {m : Memory} (hm : s.mem.wf = true → m.wf = true) : Serves s (s.withMem m) :=
    ⟨fun h => { h with mem := hm h.mem }, rfl⟩
  cases r with
  | bank b o =>
    cases w with
    | byte => exact (txWrite_bank s u a p b o v).1 ▸ latched (regWriteByte_serves s b o _) _ _
    | word => exact (txWrite_bank s u a p b o v).2 ▸ latched (regWriteWord_serves s b o v) _ _
  | ram =>
    cases w with
    | byte => exact (txWrite_ram s u a p v).1 ▸ latched (stored (Memory.wf_put _ _ _)) _ _
    | word => exact (txWrite_ram s u a p v).2 ▸ latched (stored (ramPutWord_wf s _ v)) _ _
  | ext => exact txWrite_ext s u a p w v ▸ latched (emitDevice_keeps s _).serves _ _
  | none => exact txWrite_none s u a p w v ▸ (latched (Keeps.refl s).serves _ _).trans (emitReport_keeps _ _).serves

theorem busRead_keeps (s : State) (u : Master) (a : Addr) (w : Width) : Keeps s (busRead s u a w).2 :=
  txRead_keeps s u _ _ w (onBus_onBus _ _)

theorem busWrite_serves (s : State) (u : Master) (a : Addr) (w : Width) (v : Word) : Serves s (busWrite s u a w v) :=
  txWrite_serves s u _ _ w v (onBus_onBus _ _)

theorem reportRead_keeps (w : Width) (x : Option Word × State) : Keeps x.2 (reportRead w x) := by
  obtain ⟨_ | v, t⟩ := x
  · exact .refl t
  · exact emitReport_keeps t _

/-! ### The callbacks (40_scheduler.md R146) -/

theorem callback_keeps (s : State) (id : SlotId) (t : Nat) : Keeps s (callback s id t) := by
  have shown (de : Bool) : Keeps s (s.withVid { s.vid with de := de }) := withVid_keeps fun h => h.vid
  cases id with
  | ta | tb | tc | td => exact underflow_keeps _ _ _
  | blitResume => exact blitResume_keeps s
  | vidLine => exact vidLine_keeps s t
  | vidDeOn | vidDeOff => exact (shown _).trans (timerInput_keeps _ _ _)
  | vidHb => exact .ite (fillFifo_keeps 4 s) (.refl s)
  | sndDrain => exact sndDrain_keeps s t

theorem fireOne_keeps (s : State) : Keeps s (fireOne s) := by
  unfold fireOne fireSlot
  split
  · split
    · exact (clearSlot_keeps s _).trans (callback_keeps _ _ _)
    · exact .refl s
  · exact .refl s

theorem advanceLoop_keeps {n : Nat} {s t : State} (h : advanceLoop n s = some t) : Keeps s t := by
  induction n generalizing s with
  | zero =>
    unfold advanceLoop at h
    split at h
    · cases h
    · exact Option.some.inj h ▸ .refl s
  | succ n ih =>
    unfold advanceLoop at h
    split at h
    · exact (fireOne_keeps s).trans (ih h)
    · exact Option.some.inj h ▸ .refl s

/-! ### The phases of the blitter (42_blitter.md R222 to R236) -/

theorem even_of_addrReg {c : Config} {a : Addr} (h : addrReg c a = a) : a.getLsbD 0 = false := by
  rw [← h, getLsbD_addrReg]
  simp

theorem addrReg_moved {c : Config} {a : Addr} {inc : Word} (ha : addrReg c a = a) (hi : inc.getLsbD 0 = false) :
    addrReg c (stepAddr c a (sextAddr inc)) = stepAddr c a (sextAddr inc) := by
  refine addrReg_stepAddr c a _ (even_of_addrReg ha) ?_
  rw [sextAddr, BitVec.getLsbD_signExtend]
  simpa using hi

theorem countTransaction_keeps (s : State) : Keeps s (countTransaction s) := withBlit_keeps (fun h => { h with }) rfl

theorem blitRead_keeps (s : State) (a : Addr) : Keeps s (blitRead s a).2 :=
  (busRead_keeps s .blit a .word).trans (countTransaction_keeps _)

/-- A reading phase ends in another phase of the window, never in IDLE. -/
theorem toPhase_inv {t : State} {b : Blit} {p : BitVec 3} (ht : Inv t)
    (hb : BlitRegsOk t.cfg t.blit → BlitRegsOk t.cfg b) (hp : p.toNat ≤ 4) (hne : p ≠ phaseIdle) : Inv (toPhase (t.withBlit b) p) := by
  obtain ⟨hunits, hburst, _⟩ := inv_iff.mp ht
  exact inv_iff.mpr ⟨{ hunits with blit := { hb hunits.blit with phase := hp } }, hburst, fun _ => hne⟩

/-- A word shifted in, and SRC_ADDR moved by an increment (R223, R224, R238). -/
theorem shiftedIn_regsOk {c : Config} {b : Blit} (w : Word) {inc : Word} (h : BlitRegsOk c b)
    (hinc : inc.getLsbD 0 = false) :
    BlitRegsOk c { shiftIn b w with srcAddr := stepAddr c (shiftIn b w).srcAddr (sextAddr inc) } :=
  { h with srcAddr := addrReg_moved h.srcAddr hinc }

theorem blitPrime_inv {s : State} (hs : Inv s) : Inv (blitPrime s) := by
  have hread := blitRead_keeps s s.blit.srcAddr
  rw [blitPrime]
  generalize blitRead s s.blit.srcAddr = read at hread
  rw [← hread.cfg]
  exact toPhase_inv (hread.inv hs) (fun h => shiftedIn_regsOk _ h h.srcXinc) (by decide) (by decide)

theorem blitReadSource_inv {s : State} (hs : Inv s) : Inv (blitReadSource s) := by
  have hread := blitRead_keeps s s.blit.srcAddr
  rw [blitReadSource]
  generalize blitRead s s.blit.srcAddr = read at hread
  rw [← hread.cfg]
  refine toPhase_inv (hread.inv hs) (fun h => shiftedIn_regsOk _ h ?_) ?_ ?_
  · split
    · exact h.srcYinc
    · exact h.srcXinc
  · split <;> decide
  · split <;> decide

theorem blitReadDest_inv {s : State} (hs : Inv s) : Inv (blitReadDest s) := by
  have hread := blitRead_keeps s s.blit.dstAddr
  rw [blitReadDest]
  generalize blitRead s s.blit.dstAddr = read at hread
  exact toPhase_inv (hread.inv hs) (fun h => { h with }) (by decide) (by decide)

theorem nextWindow_keeps (s : State) : Keeps s (nextWindow s) := by
  have yielded : Keeps s (s.withBlit { s.blit with request := false }) := withBlit_keeps (fun h => { h with }) rfl
  exact .ite (requestBlit_keeps s) (yielded.trans (schedule_keeps _ _ _))

/-- The end of the last line releases the bus, which the CPU has already (R229, R231). -/
theorem blitTerminate_inv {s : State} (hs : Inv s) (howner : s.owner = .cpu) : Inv (blitTerminate s) := by
  obtain ⟨hunits, hburst, _⟩ := inv_iff.mp hs
  refine (setGpioBit_keeps _ _ _).inv (inv_iff.mpr ⟨{ hunits with blit := { hunits.blit with phase := Nat.zero_le 4 } },
    howner ▸ hburst, fun h => Master.noConfusion h⟩)

theorem lineEnd_inv {s : State} (hs : Inv s) (howner : s.owner = .cpu) : Inv (lineEnd s) := by
  have counted (x y : Word) (l : BitVec 4) : Keeps s (s.withBlit { s.blit with xCount := x, line := l, yCount := y }) :=
    withBlit_keeps (fun h => { h with }) rfl
  simp only [lineEnd]
  split
  · exact blitTerminate_inv ((counted _ _ _).inv hs) howner
  · exact (nextWindow_keeps _).inv ((counted _ _ _).inv hs)

/-- WRITE_DEST gives the bus back whatever its write has done to the blitter's own registers (entry 21). -/
theorem blitWriteDest_inv {s : State} (hs : Inv s) (howner : s.owner = .blit) : Inv (blitWriteDest s) := by
  have hwritten := (busWrite_serves s .blit s.blit.dstAddr .word (blitOut s.blit)).trans
    (countTransaction_keeps _).serves
  obtain ⟨hunits, hburst, _⟩ := inv_iff.mp hs
  rw [blitWriteDest]
  generalize countTransaction (busWrite s .blit s.blit.dstAddr .word (blitOut s.blit)) = t at hwritten
  have ht : UnitsOk t := hwritten.units hunits
  obtain ⟨hcfg, _, hleft⟩ := custody_iff.mp hwritten.custody
  have released {a : Addr} (x : Word) (ha : addrReg t.cfg a = a) :
      Inv ((toPhase (t.withBlit { t.blit with dstAddr := a, xCount := x }) phaseIdle).withOwner .cpu) := by
    refine inv_iff.mpr ⟨{ ht with blit := { ht.blit with dstAddr := ha, phase := Nat.zero_le 4 } }, ?_,
      fun h => Master.noConfusion h⟩
    have idle : ¬ 0 < s.bus.burstLeft := fun h => Master.noConfusion (howner.symm.trans (hburst.mpr h))
    exact ⟨fun h => Master.noConfusion h, fun h => absurd (hleft ▸ h) idle⟩
  simp only [← hcfg]
  split
  · exact lineEnd_inv (released _ (addrReg_moved ht.blit.dstAddr ht.blit.dstYinc)) rfl
  · exact (nextWindow_keeps _).inv (released _ (addrReg_moved ht.blit.dstAddr ht.blit.dstXinc))

/-- The blitter put to idle: its three registers, its slot, its line, and the bus if it owned it (60_exceptions.md
R486). -/
theorem blitToIdle_eq (s : State) : blitToIdle s = tracing { s with
    sched := { s.sched with slots := slotPut s.sched.slots .blitResume { s.slot .blitResume with due := none } }
    blit := { s.blit with busy := false, phase := phaseIdle, request := false }
    mfp := { s.mfp with ext := putBit s.mfp.ext s.cfg.blitGpio.toNat false }
    owner := if s.owner = .blit then .cpu else s.owner } (.invalidState .blitter) := by
  obtain ⟨_, _, _, owner, _, _, _, _, _, _, _, _, _⟩ := s
  cases owner <;> rfl

/-- The blitter leaves the bus, and nobody else's burst is touched. -/
theorem owner_after_blitToIdle (o : Master) : ((if o = .blit then .cpu else o) = Master.dma ↔ o = .dma) ∧
    (if o = .blit then .cpu else o) ≠ Master.blit := by
  cases o <;> decide

theorem blitToIdle_inv {s : State} (hs : Inv s) : Inv (blitToIdle s) := by
  obtain ⟨hunits, hburst, _⟩ := inv_iff.mp hs
  obtain ⟨hdma, hblit⟩ := owner_after_blitToIdle s.owner
  rw [blitToIdle_eq]
  exact inv_iff.mpr ⟨{ hunits with
    slots := ((clearSlot_keeps s .blitResume).units hunits).slots
    blit := { hunits.blit with phase := Nat.zero_le 4 }
    mfp := hunits.mfp }, hdma.trans hburst, fun h => absurd h hblit⟩

theorem blitPhaseStep_inv {s : State} (hs : Inv s) (howner : s.owner = .blit) : Inv (blitPhaseStep s) := by
  unfold blitPhaseStep
  split
  · exact blitPrime_inv hs
  split
  · exact blitReadSource_inv hs
  split
  · exact blitReadDest_inv hs
  split
  · exact blitWriteDest_inv hs howner
  · exact blitToIdle_inv hs

/-! ### The words of a burst (44_dma.md R404) -/

theorem dmaOk_burstCounted {c : Config} {d : Dma} (h : dmaOk c d = true) : dmaOk c (burstCounted d) = true := by
  obtain ⟨hidx, hactive, hcount, hlimit, haddr⟩ := dmaOk_iff.mp h
  refine dmaOk_iff.mpr ⟨hidx, hactive, ?_, ?_, haddr⟩
  · show (if d.byteCnt = 496 then 0 else d.byteCnt + 16) % 16 = 0
    split <;> omega
  · show (if d.byteCnt = 496 then 0 else d.byteCnt + 16) < 512
    split <;> omega

theorem countBurst_keeps (s : State) : Keeps s (countBurst s) := by
  have counted : Keeps s (s.withDma (burstCounted s.dma)) := withDma_keeps dmaOk_burstCounted
  rw [countBurst_eq, ← setGpioBit_eq]
  exact .ite (counted.trans (setGpioBit_keeps _ _ _)) counted

/-- The burst ends and the bus is released together. -/
theorem endBurst_inv {s : State} (hs : UnitsOk s) (hleft : s.bus.burstLeft = 0) : Inv (endBurst s) := by
  have hcounted := countBurst_keeps s
  have unfolded : endBurst s = ((tracing (countBurst s) (.dmaBurstComplete (countBurst s).dma.addr
      (countBurst s).dma.sectorCount)).withOwner .cpu).withDma (trySwap (countBurst s).dma) := rfl
  rw [unfolded]
  generalize countBurst s = t at hcounted
  obtain ⟨_, _, hsame, _⟩ := tenure_iff.mp hcounted.tenure
  have hunits : UnitsOk t := hcounted.units hs
  refine inv_iff.mpr ⟨{ hunits with dma := dmaOk_trySwap hunits.dma },
    ⟨fun h => Master.noConfusion h, fun h => ?_⟩, fun h => Master.noConfusion h⟩
  exact absurd ((hsame.trans hleft) ▸ h) (Nat.lt_irrefl 0)

theorem afterWord_inv {s : State} (hs : UnitsOk s) (howner : s.owner = .dma) : Inv (afterWord s) := by
  obtain ⟨hidx, hactive, hcount, hlimit, haddr⟩ := dmaOk_iff.mp hs.dma
  have moved : dmaOk s.cfg { s.dma with addr := stepAddr s.cfg s.dma.addr 2 } = true :=
    dmaOk_iff.mpr ⟨hidx, hactive, hcount, hlimit, addrReg_stepAddr _ _ _ (even_of_addrReg haddr) rfl⟩
  have hunits : UnitsOk ((s.withDma { s.dma with addr := stepAddr s.cfg s.dma.addr 2 }).withBus
      { s.bus with burstLeft := s.bus.burstLeft - 1 }) :=
    { hs with dma := moved, bus := { hs.bus with left := (Nat.sub_le _ _).trans hs.bus.left } }
  simp only [afterWord]
  split
  · next hlast => exact endBurst_inv hunits hlast
  · next hmore =>
    refine inv_iff.mpr ⟨hunits, ⟨fun _ => Nat.pos_of_ne_zero hmore, fun _ => howner⟩, fun h => ?_⟩
    exact Master.noConfusion (howner.symm.trans h)

theorem dmaWordStep_inv {s : State} (hs : Inv s) (howner : s.owner = .dma) : Inv (dmaWordStep s) := by
  obtain ⟨hunits, _⟩ := inv_iff.mp hs
  have hread := busRead_keeps s .dma s.dma.addr .word
  have hwritten := busWrite_serves s .dma s.dma.addr .word (burstData s.dma (burstWord s))
  have placed (t : State) (j : Nat) (w : Word) : Keeps t (t.withDma (placeWord t.dma j w)) :=
    withDma_keeps fun h => placeWord_eq t.dma j w ▸ h
  obtain ⟨_, hreader, _, _⟩ := tenure_iff.mp hread.tenure
  obtain ⟨_, hwriter, _⟩ := custody_iff.mp hwritten.custody
  simp only [dmaWordStep]
  split
  · exact afterWord_inv ((placed _ _ _).units (hread.units hunits)) (hreader.trans howner)
  · exact afterWord_inv (hwritten.units hunits) (hwriter.trans howner)

/-! ### The resets (70_reset_and_hazards.md R520 to R523) -/

theorem videoReset_units {s : State} (hcfg : s.cfg.wf = true)
    (hpalette : ∀ w ∈ s.vid.palette.toList, w &&& ~~~s.cfg.palMask = 0)
    (hrest : OthersOk s) : UnitsOk (videoReset s) :=
  latchAndArm_units _ _ hcfg hpalette
    ((lines_pos (videoTiming_wf hcfg .pal50)).trans_le (lines_le_maxLines s.cfg .pal50)) hrest

theorem tenure_videoReset (s : State) : tenure (videoReset s) = tenure s := tenure_latchAndArm (s.withVid _) _ _

theorem palette_blank (mask : Word) : ∀ w ∈ Vid.blank.palette.toList, w &&& ~~~mask = 0 := by
  intro w hw
  obtain rfl : w = 0 := List.eq_of_mem_replicate (n := 16) hw
  exact BitVec.zero_and

theorem onBus_zero (c : Config) : onBus c 0 = 0 := BitVec.zero_and

theorem onLatch_zero (c : Config) : onLatch c 0 = 0 := BitVec.zero_and

theorem addrReg_zero (c : Config) : addrReg c 0 = 0 := onBus_zero c

theorem timerHolds_reset (id : TimerId) : TimerHolds id Timer.reset := ⟨rfl, by cases id <;> decide⟩

theorem mfpOk_reset (c : Config) : mfpOk (Mfp.reset c) = true :=
  mfpOk_iff.mpr ⟨BitVec.zero_and, fun id => by cases id <;> exact timerHolds_reset _⟩

/-- Every register but those of the video unit, which the first line's bounds complete. -/
theorem resetUnits_others {s : State} (hcfg : s.cfg.wf = true) (hmem : s.mem.wf = true) : OthersOk (resetUnits s) :=
  fun _ hv => {
    cfg := hcfg
    mem := hmem
    slots := rfl
    bus := ⟨onBus_zero _, onLatch_zero _, onBus_zero _, onLatch_zero _, Nat.zero_le 8⟩
    blit := ⟨BitVec.getLsbD_zero, BitVec.getLsbD_zero, BitVec.getLsbD_zero, BitVec.getLsbD_zero, addrReg_zero _,
      addrReg_zero _, Nat.zero_le 4⟩
    mfp := mfpOk_reset s.cfg
    dma := dmaOk_iff.mpr ⟨Nat.zero_le 16, Nat.zero_le 1, rfl, Nat.succ_pos 511, addrReg_zero _⟩
    vid := hv
    snd := rfl }

theorem resetCommon_inv {s : State} (hcfg : s.cfg.wf = true) (hmem : s.mem.wf = true) : Inv (resetCommon s) := by
  obtain ⟨_, howner, hleft, _⟩ := tenure_iff.mp (tenure_videoReset (resetUnits s))
  have released : (resetCommon s).owner = .cpu := howner
  have idle : (resetCommon s).bus.burstLeft = 0 := hleft
  refine inv_iff.mpr ⟨videoReset_units hcfg (palette_blank _) (resetUnits_others hcfg hmem), ⟨fun h => ?_, fun h => ?_⟩,
    fun h => Master.noConfusion (released.symm.trans h)⟩
  · exact Master.noConfusion (released.symm.trans h)
  · exact absurd (idle ▸ h) (Nat.lt_irrefl 0)

end Sys2Proof.Machine
end

section
/-! RESTORE of any dump ends in a well-formed state (60_exceptions.md R486, R501): what loading alone sees to, and what
each check in its turn settles for good. -/

namespace Sys2Proof.Machine

/-! ### The checks of R486, one after the other -/

/-- The dump loaded and its blitter checked. -/
def blitChecked (s : State) (d : Dump) : State :=
  recoverIf (badBlit (loadDump s d) d.owner) blitToIdle (loadDump s d)

/-- Then the arbiter. -/
def arbiterChecked (s : State) (d : Dump) : State :=
  recoverIf (badArbiter (blitChecked s d) d.owner) arbiterToIdle (blitChecked s d)

/-- Then the DMA engine. -/
def dmaChecked (s : State) (d : Dump) : State :=
  recoverIf (badDma (arbiterChecked s d).dma) dmaToIdle (arbiterChecked s d)

/-- Then the sound; the check of the video unit is the last. -/
def soundChecked (s : State) (d : Dump) : State :=
  recoverIf (badSound (dmaChecked s d).snd) soundOff (dmaChecked s d)

theorem restoreDump_eq (s : State) (d : Dump) :
    restoreDump s d = recoverIf (badVideo (soundChecked s d)) videoToReset (soundChecked s d) := rfl

theorem exec_restore {s : State} {d : Dump} (h : d.cfg = s.cfg) :
    exec (.restore (some d)) s = .next (restoreDump s d) := if_pos h

theorem recoverIf_elim {p : State → Prop} {bad : Bool} {f : State → State} {s : State} (hbad : bad = true → p (f s))
    (hgood : bad = false → p s) : p (recoverIf bad f s) := by
  cases bad with
  | true => exact hbad rfl
  | false => exact hgood rfl

/-! ### What loading sees to (entry 37) -/

/-- The parts of the invariant that no check of R486 has to restore. -/
structure LoadedOk (s : State) : Prop where
  cfg : s.cfg.wf = true
  mem : s.mem.wf = true
  slots : slotsOk s.sched.slots = true
  bus : ∀ n ≤ 8, LatchesOk s.cfg { s.bus with burstLeft := n }
  blit : ∀ p : BitVec 3, p.toNat ≤ 4 → BlitRegsOk s.cfg { s.blit with phase := p }
  mfp : mfpOk s.mfp = true
  dma : addrReg s.cfg s.dma.addr = s.dma.addr
  palette : ∀ w ∈ s.vid.palette.toList, w &&& ~~~s.cfg.palMask = 0

theorem slotGet_loadSlots (t : Slots) (id : SlotId) : slotGet (loadSlots t) id = loadSlot (slotGet t id) := by
  cases id <;> rfl

theorem loadTimer_eq (x : Timer) : loadTimer x = { x with cnt := (loadTimer x).cnt, res := (loadTimer x).res } := by
  unfold loadTimer
  split <;> rfl

theorem timerOk_loadTimer (x : Timer) : timerOk (loadTimer x) = true := by
  refine timerOk_iff.mpr fun p hp => ?_
  rw [loadTimer_eq] at hp
  have hclass : timerClass x.ctrl = .delay p := hp
  simp only [loadTimer, hclass, and_self]

theorem threeBits_loadTimerCD (x : Timer) : (loadTimerCD x).ctrl.getLsbD 3 = false := by
  rw [loadTimerCD, loadTimer_eq]
  show (x.ctrl &&& 7).getLsbD 3 = false
  rw [BitVec.getLsbD_and]
  exact Bool.and_false _

theorem mfpOk_loadMfp (m : Mfp) : mfpOk (loadMfp m) = true := by
  refine mfpOk_iff.mpr ⟨heldVrBits m.vr, fun id => ?_⟩
  cases id with
  | a | b => exact ⟨timerOk_loadTimer _, rfl⟩
  | c | d => exact ⟨timerOk_loadTimer _, congrArg (!·) (threeBits_loadTimerCD _)⟩

theorem mem_palette_loadVid {c : Config} {v : Vid} {w : Word} (h : w ∈ (loadVid c v).palette.toList) :
    ∃ x ∈ v.palette.toList, x &&& c.palMask = w :=
  List.mem_map.mp h

theorem loadDump_loadedOk {s : State} (d : Dump) (hcfg : s.cfg.wf = true) (hmem : s.mem.wf = true) :
    LoadedOk (loadDump s d) where
  cfg := hcfg
  mem := hmem
  slots := slotsOk_iff.mpr fun id => congrArg Slot.oneShot (slotGet_loadSlots d.sched.slots id)
  bus := fun _ hn => ⟨onBus_onBus _ _, onLatch_onLatch _ _, onBus_onBus _ _, onLatch_onLatch _ _, hn⟩
  blit := fun _ hp => ⟨getLsbD_evenWord _, getLsbD_evenWord _, getLsbD_evenWord _, getLsbD_evenWord _,
    addrReg_addrReg _ _, addrReg_addrReg _ _, hp⟩
  mfp := mfpOk_loadMfp d.mfp
  dma := addrReg_addrReg _ _
  palette := fun w hw => by
    obtain ⟨x, _, rfl⟩ := mem_palette_loadVid hw
    exact masked_outside x _

/-! ### What each check settles -/

/-- The blitter after its check: a legal phase, and not IDLE while it owns the bus. -/
def BlitterSettled (s : State) : Prop := s.blit.phase.toNat ≤ 4 ∧ (s.owner = .blit → s.blit.phase ≠ phaseIdle)

/-- The arbiter after its check. -/
def ArbiterSettled (s : State) : Prop := s.bus.burstLeft ≤ 8 ∧ (s.owner = .dma ↔ 0 < s.bus.burstLeft)

theorem badBlit_eq_false {s : State} {o : Option Master} (h : badBlit s o = false) : s.blit.phase.toNat ≤ 4 ∧
    s.blit.timeout ≤ s.cfg.blitSlice ∧ (o = some .blit ↔ s.blit.phase ≠ phaseIdle) := by
  simp only [badBlit, Bool.or_eq_false_iff, decide_eq_false_iff_not, Nat.not_lt, Bool.and_eq_false_imp, beq_iff_eq,
    beq_eq_false_iff_ne, bne_iff_ne, bne_eq_false_iff_eq] at h
  obtain ⟨⟨⟨hphase, htimeout⟩, hidle⟩, hrest⟩ := h
  exact ⟨hphase, htimeout, hidle, fun hp => by_contra fun ho => hp (hrest ho)⟩

theorem badArbiter_eq_false {s : State} {o : Option Master} (h : badArbiter s o = false) :
    o ≠ none ∧ s.bus.burstLeft ≤ 8 ∧ (s.owner = .dma ↔ 0 < s.bus.burstLeft) := by
  simp only [badArbiter, Bool.or_eq_false_iff, decide_eq_false_iff_not, Nat.not_lt,
    bne_eq_false_iff_eq, beq_eq_decide, decide_eq_decide] at h
  obtain ⟨⟨howner, hleft⟩, hburst⟩ := h
  exact ⟨howner, hleft, hburst⟩

theorem badDma_eq_false {d : Dma} (h : badDma d = false) :
    d.idx ≤ 16 ∧ d.byteCnt % 16 = 0 ∧ d.byteCnt < 512 ∧ d.active ≤ 1 := by
  simp only [badDma, Bool.or_eq_false_iff, decide_eq_false_iff_not, Nat.not_lt, not_not, Nat.not_le] at h
  obtain ⟨⟨⟨hidx, hcount⟩, hlimit⟩, hactive⟩ := h
  exact ⟨hidx, hcount, hlimit, hactive⟩

theorem badVideo_eq_false {s : State} (h : badVideo s = false) :
    s.vid.line < (videoTiming s.cfg (videoMode s.vid)).lines ∧ boundsOk s.vid.bounds = true := by
  simp only [badVideo, Bool.or_eq_false_iff, decide_eq_false_iff_not, Nat.not_le, Bool.not_eq_false'] at h
  exact h

theorem owner_loadDump {s : State} {d : Dump} {o : Master} (h : (loadDump s d).owner = o) (ho : o ≠ .cpu) :
    d.owner = some o := by
  have hloaded : d.owner.getD .cpu = o := h
  cases howner : d.owner with
  | none => exact absurd (howner ▸ hloaded).symm ho
  | some x =>
    rw [howner] at hloaded
    exact congrArg some hloaded

theorem blitToIdle_settles {s : State} (h : LoadedOk s) : LoadedOk (blitToIdle s) ∧ BlitterSettled (blitToIdle s) := by
  obtain ⟨_, hblit⟩ := owner_after_blitToIdle s.owner
  rw [blitToIdle_eq]
  exact ⟨⟨h.cfg, h.mem, slotsOk_slotPut h.slots (slotsOk_iff.mp h.slots .blitResume), h.bus,
    fun p hp => { h.blit p hp with }, h.mfp, h.dma, h.palette⟩, Nat.zero_le 4, fun ho => absurd ho hblit⟩

theorem arbiterToIdle_settles {s : State} (h : LoadedOk s) (hblit : BlitterSettled s) :
    LoadedOk (arbiterToIdle s) ∧ BlitterSettled (arbiterToIdle s) ∧ ArbiterSettled (arbiterToIdle s) :=
  ⟨⟨h.cfg, h.mem, h.slots, h.bus, h.blit, h.mfp, h.dma, h.palette⟩, ⟨hblit.1, fun ho => Master.noConfusion ho⟩,
    Nat.zero_le 8, fun ho => Master.noConfusion ho, fun hleft => absurd hleft (Nat.lt_irrefl 0)⟩

theorem dmaToIdle_settles {s : State} (h : LoadedOk s) :
    LoadedOk (dmaToIdle s) ∧ dmaOk (dmaToIdle s).cfg (dmaToIdle s).dma = true :=
  ⟨⟨h.cfg, h.mem, h.slots, h.bus, h.blit, h.mfp, h.dma, h.palette⟩, dmaOk_engineIdle h.dma⟩

theorem soundOff_settles {s : State} (h : LoadedOk s) : LoadedOk (soundOff s) ∧ sndOk (soundOff s).snd = true :=
  ⟨⟨h.cfg, h.mem, slotsOk_slotPut h.slots (slotsOk_iff.mp h.slots .sndDrain), h.bus, h.blit, h.mfp, h.dma,
    h.palette⟩, rfl⟩

section
variable {s : State}

theorem blitCheck_settles {o : Option Master} (h : LoadedOk s) (ho : s.owner = .blit → o = some .blit) :
    LoadedOk (recoverIf (badBlit s o) blitToIdle s) ∧ BlitterSettled (recoverIf (badBlit s o) blitToIdle s) := by
  refine recoverIf_elim (p := fun t => LoadedOk t ∧ BlitterSettled t) (fun _ => blitToIdle_settles h)
    (fun hgood => ⟨h, ?_⟩)
  obtain ⟨hphase, _, hwindow⟩ := badBlit_eq_false hgood
  exact ⟨hphase, fun howner => hwindow.mp (ho howner)⟩

theorem arbiterCheck_settles {o : Option Master} (h : LoadedOk s ∧ BlitterSettled s) :
    let t := recoverIf (badArbiter s o) arbiterToIdle s
    LoadedOk t ∧ BlitterSettled t ∧ ArbiterSettled t :=
  recoverIf_elim (p := fun t => LoadedOk t ∧ BlitterSettled t ∧ ArbiterSettled t)
    (fun _ => arbiterToIdle_settles h.1 h.2) (fun hgood => ⟨h.1, h.2, (badArbiter_eq_false hgood).2⟩)

/-- The last two checks leave the owner, the burst and the blitter alone. -/
theorem dmaCheck_settles (h : LoadedOk s ∧ BlitterSettled s ∧ ArbiterSettled s) :
    let t := recoverIf (badDma s.dma) dmaToIdle s
    (LoadedOk t ∧ BlitterSettled t ∧ ArbiterSettled t) ∧ dmaOk t.cfg t.dma = true := by
  obtain ⟨hloaded, howned⟩ := h
  refine recoverIf_elim
    (p := fun t => (LoadedOk t ∧ BlitterSettled t ∧ ArbiterSettled t) ∧ dmaOk t.cfg t.dma = true) (fun _ => ?_)
    (fun hgood => ⟨⟨hloaded, howned⟩, ?_⟩)
  · obtain ⟨hl, hd⟩ := dmaToIdle_settles hloaded
    exact ⟨⟨hl, howned⟩, hd⟩
  · obtain ⟨hidx, hcount, hlimit, hactive⟩ := badDma_eq_false hgood
    exact dmaOk_iff.mpr ⟨hidx, hactive, hcount, hlimit, hloaded.dma⟩

theorem soundCheck_settles (h : (LoadedOk s ∧ BlitterSettled s ∧ ArbiterSettled s) ∧ dmaOk s.cfg s.dma = true) :
    let t := recoverIf (badSound s.snd) soundOff s
    ((LoadedOk t ∧ BlitterSettled t ∧ ArbiterSettled t) ∧ dmaOk t.cfg t.dma = true) ∧ sndOk t.snd = true := by
  obtain ⟨⟨hloaded, howned⟩, hdma⟩ := h
  refine recoverIf_elim (p := fun t => ((LoadedOk t ∧ BlitterSettled t ∧ ArbiterSettled t) ∧
    dmaOk t.cfg t.dma = true) ∧ sndOk t.snd = true) (fun _ => ?_) (fun hgood => ⟨⟨⟨hloaded, howned⟩, hdma⟩, ?_⟩)
  · obtain ⟨hl, hx⟩ := soundOff_settles hloaded
    exact ⟨⟨⟨hl, howned⟩, hdma⟩, hx⟩
  · exact sndOk_iff.mpr (Nat.not_lt.mp (decide_eq_false_iff_not.mp hgood))

end

/-! ### The video unit and the whole -/

/-- A slot put to `NEVER`. -/
def slotCleared (t : Slots) (id : SlotId) : Slots := slotPut t id { slotGet t id with due := none }

theorem slotsOk_slotCleared {t : Slots} (h : slotsOk t = true) (id : SlotId) : slotsOk (slotCleared t id) = true :=
  slotsOk_slotPut h (slotsOk_iff.mp h id)

theorem clearSlot_eq (s : State) (id : SlotId) :
    clearSlot s id = s.withSched { s.sched with slots := slotCleared s.sched.slots id } := rfl

theorem clearSlot_withSched (s : State) (x : Sched) (id : SlotId) :
    clearSlot (s.withSched x) id = s.withSched { x with slots := slotCleared x.slots id } := rfl

/-- The four slots of the scanline put to `NEVER`. -/
def lineSlotsCleared (t : Slots) : Slots :=
  slotCleared (slotCleared (slotCleared (slotCleared t .vidLine) .vidDeOn) .vidDeOff) .vidHb

theorem slotsOk_lineSlotsCleared {t : Slots} (h : slotsOk t = true) : slotsOk (lineSlotsCleared t) = true :=
  slotsOk_slotCleared (slotsOk_slotCleared (slotsOk_slotCleared (slotsOk_slotCleared h _) _) _) _

/-- The state whose first line `video_reset` arms. -/
def videoBlanked (s : State) : State :=
  { s with sched := { s.sched with slots := lineSlotsCleared s.sched.slots }, vid := Vid.blank }

theorem videoToReset_eq (s : State) :
    videoToReset s = emitTrace (videoReset (videoBlanked s)) (.invalidState .video) := by
  simp only [videoToReset, clearSlot_eq s, clearSlot_withSched]
  rfl

theorem OthersOk.videoBlanked {s : State} (h : OthersOk s) : OthersOk (videoBlanked s) := by
  intro v hv
  have others : PartsOk s.cfg s.mem s.sched.slots s.bus s.blit s.mfp s.dma v s.snd := h v hv
  have blanked : PartsOk s.cfg s.mem (lineSlotsCleared s.sched.slots) s.bus s.blit s.mfp s.dma v s.snd :=
    { others with slots := slotsOk_lineSlotsCleared others.slots }
  exact blanked

theorem videoToReset_units {s : State} (hcfg : s.cfg.wf = true) (h : OthersOk s) : UnitsOk (videoToReset s) := by
  rw [videoToReset_eq]
  exact (emitTrace_keeps _ _).units (videoReset_units hcfg (palette_blank _) h.videoBlanked)

theorem tenure_videoToReset (s : State) : tenure (videoToReset s) = tenure s := by
  have blanked : tenure (videoBlanked s) = tenure s := rfl
  rw [videoToReset_eq, (emitTrace_keeps _ _).tenure, tenure_videoReset, blanked]

/-- The video unit goes to a state of its own, whatever the dump has put there. -/
theorem videoCheck_inv {s : State}
    (h : ((LoadedOk s ∧ BlitterSettled s ∧ ArbiterSettled s) ∧ dmaOk s.cfg s.dma = true) ∧ sndOk s.snd = true) :
    Inv (recoverIf (badVideo s) videoToReset s) := by
  obtain ⟨⟨⟨hloaded, ⟨hphase, hwindow⟩, hleft, hburst⟩, hdma⟩, hsnd⟩ := h
  have owned : OwnerOk s := ⟨hburst, hwindow⟩
  have hrest : OthersOk s := fun v hv =>
    ⟨hloaded.cfg, hloaded.mem, hloaded.slots, hloaded.bus _ hleft, hloaded.blit _ hphase, hloaded.mfp, hdma, hv, hsnd⟩
  refine recoverIf_elim (p := Inv) (fun _ => ?_) (fun hgood => ?_)
  · obtain ⟨_, ho, hl, hp⟩ := tenure_iff.mp (tenure_videoToReset s)
    exact inv_iff.mpr ⟨videoToReset_units hloaded.cfg hrest, ho ▸ hl ▸ owned.burst, ho ▸ hp ▸ owned.window⟩
  · obtain ⟨hline, hbounds⟩ := badVideo_eq_false hgood
    exact inv_iff.mpr
      ⟨hrest _ (vidOk_iff.mpr ⟨hloaded.palette, hbounds, hline.trans_le (lines_le_maxLines _ _)⟩), owned⟩

theorem restoreDump_inv {s : State} (d : Dump) (hcfg : s.cfg.wf = true) (hmem : s.mem.wf = true) :
    Inv (restoreDump s d) :=
  videoCheck_inv (soundCheck_settles (dmaCheck_settles (arbiterCheck_settles
    (blitCheck_settles (loadDump_loadedOk d hcfg hmem) fun ho => owner_loadDump ho (by decide)))))

/-- Settles O24: the checks of R486 settle what loading leaves open, and neither touches RAM. -/
theorem restoreOfAnyDumpIsWellFormed : Obligations.RestoreOfAnyDumpIsWellFormed := fun s d hcfg hmem hd =>
  ⟨restoreDump s d, exec_restore hd, restoreDump_inv d hcfg hmem, (restoreDump_keepsRam s d).sameRam⟩

end Sys2Proof.Machine
end

section
/-! Every instruction keeps the invariant, and with it every step (41_bus_arbiter.md R160): the register rows and the
field codes, then the commands and the calls. -/

namespace Sys2Proof.Machine

/-! ### Where a command or an internal step is enabled -/

theorem owner_of_cpuEnabled {s : State} (h : cpuEnabled s = true) : s.owner = .cpu := by
  cases pendingStep_iff.mp (cpuEnabled_iff.mp h) with
  | idle _ howner => exact howner

theorem whenCpu_inv {s : State} {f : State → State} (hs : Inv s) (h : cpuEnabled s = true → Inv (f s)) :
    Inv (whenCpu s f) := by
  unfold whenCpu
  split
  · next he => exact h he
  · exact (turnAway_keeps s _).inv hs

theorem whenEnvironment_keeps {s : State} {f : State → State} (h : Keeps s (f s)) : Keeps s (whenEnvironment s f) :=
  .ite (turnAway_keeps s _) h

theorem whenStep_inv {s : State} {k : InternalStep} {f : State → State} (hs : Inv s)
    (h : EnabledStep s (some k) → Inv (f s)) : Inv (whenStep s k f) := by
  unfold whenStep
  split
  · next hk => exact h (pendingStep_iff.mp hk)
  · exact (turnAway_keeps s _).inv hs

/-! ### The accesses of the CPU -/

theorem cpuRead_keeps (s : State) {a : Addr} (p : Addr) (r : Region) (w : Width) (ha : onBus s.cfg a = a) :
    Keeps s (reportRead w (txRead s .cpu a p r w)) :=
  (txRead_keeps s .cpu p r w ha).trans (reportRead_keeps w _)

/-- A write of the CPU may reach CTRL, but the CPU, not the blitter, owns the bus (R177). -/
theorem cpuWrite_inv {s : State} (hs : Inv s) (he : cpuEnabled s = true) {a : Addr} (p : Addr) (r : Region) (w : Width)
    (v : Word) (ha : onBus s.cfg a = a) : Inv (txWrite s .cpu a p r w v) :=
  (txWrite_serves s .cpu p r w v ha).inv (fun h => Master.noConfusion ((owner_of_cpuEnabled he).symm.trans h)) hs

theorem bankRead_inv {s : State} (hs : Inv s) (b : Bank) (o : Nat) (w : Width) : Inv (bankRead s b o w) :=
  whenCpu_inv hs fun _ => (cpuRead_keeps s _ _ w (onBus_onBus _ _)).inv hs

theorem bankWrite_inv {s : State} (hs : Inv s) (b : Bank) (o : Nat) (w : Width) (v : Word) :
    Inv (bankWrite s b o w v) :=
  whenCpu_inv hs fun he => cpuWrite_inv hs he _ _ w v (onBus_onBus _ _)

theorem access16At_inv {s : State} (hs : Inv s) (b : Bank) (o : Nat) (acc : Acc16) : Inv (access16At s b o acc) := by
  match acc with
  | .rd _ => exact bankRead_inv hs _ _ _
  | .wr (.hi _) | .wr (.lo _) | .wr (.both _) => exact bankWrite_inv hs _ _ _ _

theorem access8At_inv {s : State} (hs : Inv s) (b : Bank) (o : Nat) (acc : Acc8) : Inv (access8At s b o acc) := by
  match acc with
  | .rd => exact bankRead_inv hs _ _ _
  | .wr _ => exact bankWrite_inv hs _ _ _ _

/-! ### The register rows and the field codes -/

/-- The modes a field code can name: those of TMODE_CD have three bits (30_encoding.md R122, R123). -/
theorem timerMode_keeps_ab (s : State) (t : TimerAB) (m : BitVec 4) : Keeps s (setMode s (timerOfAB t) m) :=
  setMode_keeps s _ (by cases t <;> rfl)

theorem timerMode_keeps_cd (s : State) (t : TimerCD) {m : BitVec 4} (hm : m.getLsbD 3 = false) :
    Keeps s (setMode s (timerOfCD t) m) :=
  setMode_keeps s _ (by cases t <;> exact congrArg (!·) hm)

/-- The code of a register other than CTRL is that register's write rule, whoever owns the bus. -/
theorem byteCode_keeps {s : State} {r : Reg} (hr : r ≠ .ctrl) {f : Byte → State}
    (hf : ∀ v, regWrite s r v = f (v.setWidth 8)) (b : Byte) : Keeps s (f b) := by
  have h := regWrite_keeps hr s (wideByte b)
  rwa [hf, wideByte_setWidth] at h

/-- A register row is an access of the CPU; a field code writes a register that leaves the blitter's phase, or sets a
mode its timer's field holds. -/
theorem exec_row_inv {i : Instr} {s t : State} (hrow : isCommandOrCall i = false) (hs : Inv s)
    (h : exec i s = .next t) : Inv t := by
  cases i
  case regBlitHalftone | regBlitSrcXinc | regBlitSrcYinc | regBlitSrcAddrH | regBlitSrcAddrL | regBlitEndmask1
    | regBlitEndmask2 | regBlitEndmask3 | regBlitDstXinc | regBlitDstYinc | regBlitDstAddrH | regBlitDstAddrL
    | regBlitXCount | regBlitYCount | regDmaDataCount | regDmaDataController | regDmaMode | regDmaStatus
    | regVidPaletteRead | regVidPaletteWrite => exact Host.Outcome.next.inj h ▸ access16At_inv hs _ _ _
  case opZero | opAnd | opAndNotd | opSrc | opNotsAnd | opDst | opXor | opOr | opNor | opXnor | opNotd | opOrNotd
    | opNots | opNotsOr | opNand | opOne =>
    exact Host.Outcome.next.inj h ▸ (byteCode_keeps (r := .op) (f := writeOp s) (by decide) (fun _ => rfl) _).inv hs
  case hopOnes | hopHalftone | hopSource | hopSrcAndHt =>
    exact Host.Outcome.next.inj h ▸ (byteCode_keeps (r := .hop) (f := writeHop s) (by decide) (fun _ => rfl) _).inv hs
  case tmStop | tmDiv4 | tmDiv10 | tmDiv16 | tmDiv50 | tmDiv64 | tmDiv100 | tmDiv200 | tmEvent | tmRsv9 | tmRsv10
    | tmRsv11 | tmRsv12 | tmRsv13 | tmRsv14 | tmRsv15 =>
    exact Host.Outcome.next.inj h ▸ (timerMode_keeps_ab s _ _).inv hs
  case tmStopCd | tmDiv4Cd | tmDiv10Cd | tmDiv16Cd | tmDiv50Cd | tmDiv64Cd | tmDiv100Cd | tmDiv200Cd =>
    exact Host.Outcome.next.inj h ▸ (timerMode_keeps_cd s _ (by decide)).inv hs
  case dmaRead | dmaWrite => exact Host.Outcome.next.inj h ▸ (writeDmaMode_keeps s _).inv hs
  case resLow | resMed | resHigh | resRsv3 =>
    exact Host.Outcome.next.inj h ▸
      (byteCode_keeps (r := .shiftMode) (f := writeShiftMode s) (by decide) (fun _ => rfl) _).inv hs
  case freq60 | freq50 =>
    exact Host.Outcome.next.inj h ▸ (byteCode_keeps (r := .sync) (f := writeSync s) (by decide) (fun _ => rfl) _).inv hs
  case rate0 | rate1 | rate2 | rate3 =>
    exact Host.Outcome.next.inj h ▸
      (byteCode_keeps (r := .sndMode) (f := writeSndMode s) (by decide) (fun _ => rfl) _).inv hs
  case sndOff | sndOn => exact Host.Outcome.next.inj h ▸ (writeSndCtrl_keeps s _).inv hs
  case run | rdB | rdW | wrB | wrW | iack | gpio | int | tai | dbin | dbout | resetC | resetW | snap | restore
    | schedule | advance | requestBus | idle | setGpioBit | pushSample | fire | grantDma | grantBlit | blitPhase
    | dmaWord => cases hrow
  -- the rows of one-byte registers
  all_goals exact Host.Outcome.next.inj h ▸ access8At_inv hs _ _ _

/-! ### The commands and the calls -/

theorem execIack_inv {l : BitVec 3} {s t : State} (hs : Inv s) (h : execIack l s = .next t) : Inv t := by
  refine Host.Outcome.next.inj h ▸ whenCpu_inv hs fun _ => Keeps.inv (.ite ?_ (turnAway_keeps s _)) hs
  split
  · exact takeInterrupt_keeps s _
  · exact (emitTrace_keeps s _).trans (emitReport_keeps _ _)

theorem execAdvance_inv {s t : State} (hs : Inv s) (h : execAdvance s = .next t) : Inv t := by
  unfold execAdvance at h
  split at h
  · next hloop => exact Host.Outcome.next.inj h ▸ (advanceLoop_keeps hloop).inv hs
  · cases h

theorem execRestore_inv {d : Option Dump} {s t : State} (hs : Inv s) (h : execRestore d s = .next t) : Inv t := by
  have refused : Inv (turnAway s .dumpShape) := (turnAway_keeps s _).inv hs
  obtain ⟨hcfg, hmem, _⟩ := hs
  unfold execRestore at h
  split at h
  · split at h
    · exact Host.Outcome.next.inj h ▸ restoreDump_inv _ hcfg hmem
    · exact Host.Outcome.next.inj h ▸ refused
  · exact Host.Outcome.next.inj h ▸ refused

/-- A burst of 8 words begins as the DMA engine takes the bus (R163). -/
theorem execGrantDma_inv {s t : State} (hs : Inv s) (h : execGrantDma s = .next t) : Inv t := by
  obtain ⟨hunits, _⟩ := inv_iff.mp hs
  refine Host.Outcome.next.inj h ▸ whenStep_inv hs fun _ => inv_iff.mpr ⟨?_, ⟨?_, fun ho => Master.noConfusion ho⟩⟩
  · exact { hunits with bus := { hunits.bus with left := Nat.le_refl 8 } }
  · exact ⟨fun _ => Nat.succ_pos 7, fun _ => rfl⟩

/-- The first phase of a window is PRIME or READ_SOURCE (R164). -/
theorem execGrantBlit_inv {s t : State} (hs : Inv s) (h : execGrantBlit s = .next t) : Inv t := by
  obtain ⟨hunits, hburst, _⟩ := inv_iff.mp hs
  refine Host.Outcome.next.inj h ▸ whenStep_inv hs fun hstep => ?_
  have howner : s.owner = .cpu := by cases hstep with | grantBlit _ howner _ _ => exact howner
  have idle : ¬ 0 < s.bus.burstLeft := fun hleft => Master.noConfusion (howner.symm.trans (hburst.mpr hleft))
  have first : (if doPrime s.blit then phasePrime else phaseReadSource).toNat ≤ 4 ∧
      (if doPrime s.blit then phasePrime else phaseReadSource) ≠ phaseIdle := by split <;> decide
  exact inv_iff.mpr ⟨{ hunits with blit := { hunits.blit with phase := first.1 } },
    ⟨fun ho => Master.noConfusion ho, fun hleft => absurd hleft idle⟩, fun _ => first.2⟩

theorem exec_inv (i : Instr) {s t : State} (hs : Inv s) (h : exec i s = .next t) : Inv t := by
  cases hrow : isCommandOrCall i with
  | false => exact exec_row_inv hrow hs h
  | true =>
    cases i
    case run =>
      exact Host.Outcome.next.inj h ▸
        whenCpu_inv hs fun _ => Keeps.inv (.ite (turnAway_keeps s _) (advanceNow_keeps s _)) hs
    case rdB =>
      exact Host.Outcome.next.inj h ▸ whenCpu_inv hs fun _ => (cpuRead_keeps s _ _ _ (onBus_onBus _ _)).inv hs
    case rdW =>
      exact Host.Outcome.next.inj h ▸
        whenCpu_inv hs fun _ => Keeps.inv (.ite (turnAway_keeps s _) (cpuRead_keeps s _ _ _ (onBus_onBus _ _))) hs
    case wrB =>
      exact Host.Outcome.next.inj h ▸ whenCpu_inv hs fun he => cpuWrite_inv hs he _ _ _ _ (onBus_onBus _ _)
    case wrW =>
      refine Host.Outcome.next.inj h ▸ whenCpu_inv hs fun he => ?_
      split
      · exact (turnAway_keeps s _).inv hs
      · exact cpuWrite_inv hs he _ _ _ _ (onBus_onBus _ _)
    case iack => exact execIack_inv hs h
    case gpio =>
      obtain rfl := Host.Outcome.next.inj h
      exact Keeps.inv (whenEnvironment_keeps (.ite (turnAway_keeps s _) (setGpioBit_keeps s _ _))) hs
    case int =>
      obtain rfl := Host.Outcome.next.inj h
      exact Keeps.inv (whenEnvironment_keeps (.ite (mfpEvent_keeps s _) (turnAway_keeps s _))) hs
    case tai => exact Host.Outcome.next.inj h ▸ (whenEnvironment_keeps (timerInput_keeps s _ _)).inv hs
    case dbin => exact Host.Outcome.next.inj h ▸ (whenEnvironment_keeps (diskIn_keeps s _)).inv hs
    case dbout => exact Host.Outcome.next.inj h ▸ (whenEnvironment_keeps (diskOut_keeps s)).inv hs
    case resetC =>
      obtain ⟨hcfg, _⟩ := hs
      exact Host.Outcome.next.inj h ▸ resetCommon_inv hcfg rfl
    case resetW =>
      obtain ⟨hcfg, hmem, _⟩ := hs
      exact Host.Outcome.next.inj h ▸ resetCommon_inv hcfg hmem
    case snap => exact Host.Outcome.next.inj h ▸ (emitReport_keeps s _).inv hs
    case restore => exact execRestore_inv hs h
    case schedule => exact Host.Outcome.next.inj h ▸ (schedule_keeps s _ _).inv hs
    case advance => exact execAdvance_inv hs h
    case requestBus u _ =>
      cases u with
      | blit => exact Host.Outcome.next.inj h ▸ (requestBlit_keeps s).inv hs
      | dma => exact Host.Outcome.next.inj h ▸ hs
    case idle => exact Host.Outcome.next.inj h ▸ (chargeIdle_keeps s _).inv hs
    case setGpioBit => exact Host.Outcome.next.inj h ▸ (setGpioBit_keeps s _ _).inv hs
    case pushSample => exact Host.Outcome.next.inj h ▸ (pushSample_keeps s _).inv hs
    case fire => exact Host.Outcome.next.inj h ▸ whenStep_inv hs fun _ => (fireOne_keeps s).inv hs
    case grantDma => exact execGrantDma_inv hs h
    case grantBlit => exact execGrantBlit_inv hs h
    case blitPhase =>
      refine Host.Outcome.next.inj h ▸ whenStep_inv hs fun hstep => ?_
      cases hstep with | blitPhase _ howner => exact blitPhaseStep_inv hs howner
    case dmaWord =>
      refine Host.Outcome.next.inj h ▸ whenStep_inv hs fun hstep => ?_
      cases hstep with | dmaWord _ howner => exact dmaWordStep_inv hs howner
    -- the rows
    all_goals cases hrow

/-! ### The step -/

theorem internalStep_inv {s t : State} {q : List Request} (hs : Inv s) (h : internalStep s q = .next t) : Inv t := by
  unfold internalStep at h
  split at h
  · exact exec_inv _ ((withInbox_keeps s q).inv hs) h
  · exact Host.Outcome.next.inj h ▸ hs

/-- Settles O54: a step is an instruction, a packet that is none, or no change at all. -/
theorem stepKeepsWellFormed : Obligations.StepKeepsWellFormed := by
  intro s t hs h
  unfold step at h
  split at h
  · exact internalStep_inv hs h
  · split at h
    · split at h
      · split at h
        · exact exec_inv _ ((withInbox_keeps s _).inv hs) h
        · exact internalStep_inv hs h
      · exact Host.Outcome.next.inj h ▸ ((withInbox_keeps s _).trans (turnAway_keeps _ _)).inv hs
    · exact internalStep_inv hs h

end Sys2Proof.Machine
end

section
/-! RESTORE of a snapshot (60_exceptions.md R502): what loading drops from a dump, the registers of a well-formed state
do not hold, and no check of R486 finds anything. -/

namespace Sys2Proof.Machine

/-! ### Loading what is held already -/

theorem slots_ext {t u : Slots} (h : ∀ id, slotGet t id = slotGet u id) : t = u := by
  cases t
  cases u
  exact (Slots.mk.injEq ..).mpr ⟨h .ta, h .tb, h .tc, h .td, h .blitResume, h .vidLine, h .vidDeOn, h .vidDeOff,
    h .vidHb, h .sndDrain⟩

theorem loadSlots_eq_self {t : Slots} (h : slotsOk t = true) : loadSlots t = t := by
  refine slots_ext fun id => (slotGet_loadSlots t id).trans ?_
  rw [loadSlot, ← slotsOk_iff.mp h id]

theorem loadBus_eq_self {c : Config} {b : Bus} (h : LatchesOk c b) : loadBus c b = b := by
  rw [loadBus, h.addr, h.data, h.txAddr, h.txData]

/-- Clearing bits that are 0 changes nothing. -/
theorem and_eq_self_of_outside {n : Nat} {x mask : BitVec n} (h : x &&& ~~~mask = 0#n) : x &&& mask = x := by
  calc x &&& mask = x &&& mask ||| x &&& ~~~mask := by rw [h, BitVec.or_zero]
    _ = x := by rw [← BitVec.and_or_distrib_left, BitVec.or_not_self, BitVec.and_allOnes]

theorem evenWord_eq_self {w : Word} (h : w.getLsbD 0 = false) : evenWord w = w := by
  have hbit : w &&& 1#16 = 0#16 := by rw [BitVec.and_one_eq_setWidth_ofBool_getLsbD, h]; rfl
  exact and_eq_self_of_outside hbit

theorem loadBlit_eq_self {c : Config} {b : Blit} (h : BlitRegsOk c b) : loadBlit c b = b := by
  rw [loadBlit, evenWord_eq_self h.srcXinc, evenWord_eq_self h.srcYinc, evenWord_eq_self h.dstXinc,
    evenWord_eq_self h.dstYinc, h.srcAddr, h.dstAddr]

theorem loadVid_eq_self {c : Config} {v : Vid} (h : ∀ w ∈ v.palette.toList, w &&& ~~~c.palMask = 0) :
    loadVid c v = v := by
  have hmap : v.palette.toList.map (fun w => w &&& c.palMask) = v.palette.toList :=
    (List.map_congr_left fun w hw => and_eq_self_of_outside (h w hw)).trans (List.map_id _)
  simp only [loadVid, hmap]
  rfl

/-! ### Loading the live counters -/

/-- A counter the dump holds live is no stored one where the timer runs in a delay mode, and the stored one where it
does not (R51, R52, R505). -/
theorem loadTimer_liveTimer {s : State} {id : TimerId} (h : timerOk (s.timer id) = true) :
    loadTimer (liveTimer s id) = s.timer id := by
  unfold loadTimer
  split
  · next p hp =>
    obtain ⟨hcnt, hres⟩ := timerOk_iff.mp h p hp
    rw [liveTimer, ← hcnt, ← hres]
  · next hp => rw [liveTimer, liveCounter_stored s id hp]

theorem threeBits_eq_self : ∀ {m : BitVec 4}, m.getLsbD 3 = false → m &&& 7 = m := by decide

theorem loadTimerCD_liveTimer {s : State} {id : TimerId} (h : timerOk (s.timer id) = true)
    (hthree : (s.timer id).ctrl.getLsbD 3 = false) : loadTimerCD (liveTimer s id) = s.timer id := by
  have hctrl : (s.timer id).ctrl &&& 7 = (s.timer id).ctrl := threeBits_eq_self hthree
  have hload : loadTimerCD (liveTimer s id) = loadTimer (liveTimer s id) := by
    rw [loadTimerCD, liveTimer, hctrl]
  rw [hload, loadTimer_liveTimer h]

theorem loadMfp_takeDump {s : State} (h : mfpOk s.mfp = true) : loadMfp (takeDump s).mfp = s.mfp := by
  obtain ⟨hvr, htimers⟩ := mfpOk_iff.mp h
  have hvr' : s.mfp.vr &&& 0xF8 = s.mfp.vr := and_eq_self_of_outside hvr
  have ha : loadTimer (liveTimer s .a) = s.mfp.ta := loadTimer_liveTimer (htimers .a).1
  have hb : loadTimer (liveTimer s .b) = s.mfp.tb := loadTimer_liveTimer (htimers .b).1
  have hc : loadTimerCD (liveTimer s .c) = s.mfp.tc :=
    loadTimerCD_liveTimer (htimers .c).1 (Bool.not_eq_true' _ ▸ (htimers .c).2)
  have hd : loadTimerCD (liveTimer s .d) = s.mfp.td :=
    loadTimerCD_liveTimer (htimers .d).1 (Bool.not_eq_true' _ ▸ (htimers .d).2)
  simp only [loadMfp, takeDump, hvr', ha, hb, hc, hd]

/-! ### The snapshot loaded, and no unit bad -/

/-- `s` with what no dump holds: the environment's answers, the streams and the waiting commands of `r` (entry 27). -/
def around (s r : State) : State := { s with env := r.env, out := r.out, inbox := r.inbox }

theorem loadDump_takeDump {s r : State} (hs : Inv s) (hmem : r.mem = s.mem) (hcfg : r.cfg = s.cfg) :
    loadDump r (takeDump s) = around s r := by
  obtain ⟨hunits, _⟩ := inv_iff.mp hs
  obtain ⟨_, _, _, _, haddr⟩ := dmaOk_iff.mp hunits.dma
  obtain ⟨hpalette, _⟩ := vidOk_iff.mp hunits.vid
  have hslots : loadSlots (takeDump s).sched.slots = s.sched.slots := loadSlots_eq_self hunits.slots
  have hbus : loadBus s.cfg (takeDump s).bus = s.bus := loadBus_eq_self hunits.bus
  have hblit : loadBlit s.cfg (takeDump s).blit = s.blit := loadBlit_eq_self hunits.blit
  have hdma : addrReg s.cfg (takeDump s).dma.addr = s.dma.addr := haddr
  have hvid : loadVid s.cfg (takeDump s).vid = s.vid := loadVid_eq_self hpalette
  rw [loadDump, around, hmem, hcfg, hslots, hbus, hblit, loadMfp_takeDump hunits.mfp, hdma, hvid]
  rfl

section
variable {s : State}

theorem badBlit_of_inv (hs : Inv s) (htimeout : s.blit.timeout ≤ s.cfg.blitSlice)
    (hidle : s.owner ≠ .blit → s.blit.phase = phaseIdle) : badBlit s (some s.owner) = false := by
  obtain ⟨hunits, hown⟩ := inv_iff.mp hs
  have hphase := hunits.blit.phase
  have hwindow := hown.window
  simp only [badBlit, Bool.or_eq_false_iff, decide_eq_false_iff_not, Nat.not_lt, Bool.and_eq_false_imp, beq_iff_eq,
    beq_eq_false_iff_ne, bne_iff_ne, bne_eq_false_iff_eq, Option.some.injEq, ne_eq]
  exact ⟨⟨⟨hphase, htimeout⟩, hwindow⟩, hidle⟩

theorem badArbiter_of_inv (hs : Inv s) : badArbiter s (some s.owner) = false := by
  obtain ⟨hunits, hown⟩ := inv_iff.mp hs
  simp only [badArbiter, Bool.or_eq_false_iff, decide_eq_false_iff_not, Nat.not_lt,
    bne_eq_false_iff_eq, beq_eq_decide, decide_eq_decide]
  exact ⟨⟨Option.some_ne_none _, hunits.bus.left⟩, hown.burst⟩

theorem badDma_of_dmaOk {c : Config} {d : Dma} (h : dmaOk c d = true) : badDma d = false := by
  obtain ⟨hidx, hactive, hcount, hlimit, _⟩ := dmaOk_iff.mp h
  simp only [badDma, Bool.or_eq_false_iff, decide_eq_false_iff_not, Nat.not_lt, not_not, Nat.not_le]
  exact ⟨⟨⟨hidx, hcount⟩, hlimit⟩, hactive⟩

theorem badSound_of_sndOk {x : Snd} (h : sndOk x = true) : badSound x = false :=
  decide_eq_false (Nat.not_lt.mpr (sndOk_iff.mp h))

theorem badVideo_of_inv (hs : Inv s) (hline : s.vid.line < (videoTiming s.cfg (videoMode s.vid)).lines) :
    badVideo s = false := by
  obtain ⟨hunits, _⟩ := inv_iff.mp hs
  obtain ⟨_, hbounds, _⟩ := vidOk_iff.mp hunits.vid
  rw [badVideo, hbounds, decide_eq_false (Nat.not_le.mpr hline)]
  rfl

end

theorem recoverIf_of_good {bad : Bool} (f : State → State) (s : State) (h : bad = false) : recoverIf bad f s = s := by
  rw [h]
  rfl

/-- Settles O23: the dump loads to `s`, and each check in turn leaves it as it is. -/
theorem restoreOfASnapshot : Obligations.RestoreOfASnapshot := by
  intro s r hs htimeout hidle hline hmem hcfg
  obtain ⟨hunits, _⟩ := inv_iff.mp hs
  have hload : loadDump r (takeDump s) = around s r := loadDump_takeDump hs hmem hcfg
  have hblit : blitChecked r (takeDump s) = around s r := by
    rw [blitChecked, hload]
    exact recoverIf_of_good _ _ (badBlit_of_inv hs htimeout hidle)
  have harbiter : arbiterChecked r (takeDump s) = around s r := by
    rw [arbiterChecked, hblit]
    exact recoverIf_of_good _ _ (badArbiter_of_inv hs)
  have hdma : dmaChecked r (takeDump s) = around s r := by
    rw [dmaChecked, harbiter]
    exact recoverIf_of_good _ _ (badDma_of_dmaOk hunits.dma)
  have hsound : soundChecked r (takeDump s) = around s r := by
    rw [soundChecked, hdma]
    exact recoverIf_of_good _ _ (badSound_of_sndOk hunits.snd)
  have hvideo : restoreDump r (takeDump s) = around s r := by
    rw [restoreDump_eq, hsound]
    exact recoverIf_of_good _ _ (badVideo_of_inv hs hline)
  rw [exec_restore hcfg.symm, hvideo]
  rfl

end Sys2Proof.Machine
end

section
/-! The recoveries of 60_exceptions.md R486, row by row: what each unit's check reads is as the dump has it when the
check is made, and what its recovery leaves is not touched by the later ones. -/

namespace Sys2Proof.Machine

/-- What holds before a recovery and after it holds after the check. -/
theorem recoverIf_keeps {p : State → Prop} {f : State → State} (hf : ∀ x, p x → p (f x)) (bad : Bool) {s : State}
    (h : p s) : p (recoverIf bad f s) :=
  recoverIf_elim (fun _ => hf s h) (fun _ => h)

/-! ### The first scanline armed (45_video.md R439) -/

section
variable (s : State) (m : VideoTiming) (line t : Nat)

/-- The registers of the video unit at the start of a scanline. -/
def lineLatched : State := { s with vid := { s.vid with line := line, lineStart := t, bounds :=
  ⟨m.lineLen, m.winStart, m.winEnd, m.hbStart, decide (m.picFirst ≤ line ∧ line ≤ m.picLast)⟩ } }

/-- A scanline of the picture has a fetch window. -/
theorem lineArmed_picture (h : m.picFirst ≤ line ∧ line ≤ m.picLast) : lineArmed s m line t =
    schedule (schedule (schedule (schedule (lineLatched s m line t) .vidLine (some (t + m.lineLen)))
      .vidDeOn (some (t + m.winStart))) .vidDeOff (some (t + m.winEnd))) .vidHb (some (t + m.hbStart)) :=
  congrArg (scheduled · .vidHb _) (if_pos (decide_eq_true h))

/-- A scanline of the border has none. -/
theorem lineArmed_border (h : ¬ (m.picFirst ≤ line ∧ line ≤ m.picLast)) : lineArmed s m line t =
    schedule (schedule (lineLatched s m line t) .vidLine (some (t + m.lineLen))) .vidHb (some (t + m.hbStart)) :=
  congrArg (scheduled · .vidHb _) (if_neg (mt of_decide_eq_true h))

/-- Arming touches the slots only. -/
theorem lineArmed_frame :
    lineArmed s m line t = { lineLatched s m line t with sched := (lineArmed s m line t).sched } := by
  by_cases h : m.picFirst ≤ line ∧ line ≤ m.picLast
  · rw [lineArmed_picture s m line t h]
    rfl
  · rw [lineArmed_border s m line t h]
    rfl

theorem lineArmed_now : (lineArmed s m line t).sched.now = s.sched.now := by
  by_cases h : m.picFirst ≤ line ∧ line ≤ m.picLast
  · rw [lineArmed_picture s m line t h]
    rfl
  · rw [lineArmed_border s m line t h]
    rfl

theorem tracing_lineArmed (e : TraceRec) : tracing (lineArmed s m line t) e = { lineLatched s m line t with
    sched := (lineArmed s m line t).sched
    out := { s.out with trace := s.out.trace ++ [(s.sched.now, e)] } } := by
  rw [tracing, lineArmed_now, lineArmed_frame]
  rfl

/-- The slots of the other units. -/
def OffLine (x : SlotId) : Prop := x ≠ .vidLine ∧ x ≠ .vidDeOn ∧ x ≠ .vidDeOff ∧ x ≠ .vidHb

theorem offLine_blitResume : OffLine .blitResume := ⟨nofun, nofun, nofun, nofun⟩

theorem offLine_sndDrain : OffLine .sndDrain := ⟨nofun, nofun, nofun, nofun⟩

theorem lineArmed_slot_other {x : SlotId} (hx : OffLine x) : (lineArmed s m line t).slot x = s.slot x := by
  obtain ⟨hline, hon, hoff, hhb⟩ := hx
  by_cases h : m.picFirst ≤ line ∧ line ≤ m.picLast
  · rw [lineArmed_picture s m line t h]
    simp only [schedule_slot, hline, hon, hoff, hhb, if_false]
    rfl
  · rw [lineArmed_border s m line t h]
    simp only [schedule_slot, hline, hhb, if_false]
    rfl

/-- The slots of the fetch window are armed in the picture only. -/
theorem lineArmed_due :
    ((lineArmed s m line t).slot .vidLine).due = some (t + m.lineLen) ∧
    ((lineArmed s m line t).slot .vidDeOn).due =
      (if decide (m.picFirst ≤ line ∧ line ≤ m.picLast) then some (t + m.winStart) else (s.slot .vidDeOn).due) ∧
    ((lineArmed s m line t).slot .vidDeOff).due =
      (if decide (m.picFirst ≤ line ∧ line ≤ m.picLast) then some (t + m.winEnd) else (s.slot .vidDeOff).due) ∧
    ((lineArmed s m line t).slot .vidHb).due = some (t + m.hbStart) := by
  by_cases h : m.picFirst ≤ line ∧ line ≤ m.picLast
  · rw [lineArmed_picture s m line t h, if_pos (decide_eq_true h), if_pos (decide_eq_true h)]
    exact ⟨rfl, rfl, rfl, rfl⟩
  · rw [lineArmed_border s m line t h, if_neg (mt of_decide_eq_true h), if_neg (mt of_decide_eq_true h)]
    exact ⟨rfl, rfl, rfl, rfl⟩

end

/-! ### The video unit put to its reset state -/

theorem videoMode_blank : videoMode Vid.blank = .ntsc60 := by decide

/-- The mode of the reset values is NTSC_60 (entry 26). -/
theorem videoReset_blanked (s : State) : videoReset (videoBlanked s) =
    lineArmed (videoBlanked s) s.cfg.vtNtsc60 0 s.sched.now :=
  (congrArg (latchAndArm _ · _) videoMode_blank).trans (latchAndArm_eq (videoBlanked s) .ntsc60 0 s.sched.now)

theorem videoToReset_lineArmed (s : State) : videoToReset s =
    tracing (lineArmed (videoBlanked s) s.cfg.vtNtsc60 0 s.sched.now) (.invalidState .video) := by
  rw [videoToReset_eq, videoReset_blanked, emitTrace_eq]

theorem slotGet_slotCleared (t : Slots) (id x : SlotId) :
    slotGet (slotCleared t id) x = if x = id then { slotGet t id with due := none } else slotGet t x := by
  by_cases h : x = id
  · rw [if_pos h, h, slotCleared, slotGet_slotPut_same]
  · rw [if_neg h, slotCleared, slotGet_slotPut_other t id x _ h]

theorem slot_videoBlanked_other (s : State) {x : SlotId} (hx : OffLine x) : (videoBlanked s).slot x = s.slot x := by
  obtain ⟨hline, hon, hoff, hhb⟩ := hx
  have cleared : slotGet (lineSlotsCleared s.sched.slots) x = slotGet s.sched.slots x := by
    simp only [lineSlotsCleared, slotGet_slotCleared, hline, hon, hoff, hhb, if_false]
  exact cleared

/-- The recovery of the video unit touches its registers, its slots and the trace. -/
theorem videoToReset_frame (s : State) : videoToReset s = { s with
    sched := (videoToReset s).sched
    vid := { Vid.blank with lineStart := s.sched.now, bounds := ⟨s.cfg.vtNtsc60.lineLen, s.cfg.vtNtsc60.winStart,
      s.cfg.vtNtsc60.winEnd, s.cfg.vtNtsc60.hbStart,
      decide (s.cfg.vtNtsc60.picFirst ≤ 0 ∧ 0 ≤ s.cfg.vtNtsc60.picLast)⟩ }
    out := { s.out with trace := s.out.trace ++ [(s.sched.now, .invalidState .video)] } } := by
  rw [videoToReset_lineArmed, tracing_lineArmed]
  rfl

theorem videoToReset_now (s : State) : (videoToReset s).sched.now = s.sched.now :=
  congrArg Prod.snd (clock_videoToReset s)

theorem slot_tracing (s : State) (e : TraceRec) (x : SlotId) : (tracing s e).slot x = s.slot x := rfl

theorem videoToReset_slot_other (s : State) {x : SlotId} (hx : OffLine x) :
    (videoToReset s).slot x = s.slot x := by
  rw [videoToReset_lineArmed, slot_tracing, lineArmed_slot_other _ _ _ _ hx, slot_videoBlanked_other s hx]

/-! ### What the later checks read is as the dump has it -/

/-- What no recovery changes. -/
structure DumpKept (s : State) (d : Dump) (t : State) : Prop where
  cfg : t.cfg = s.cfg
  now : t.sched.now = d.sched.now
  ipr : t.mfp.ipr = d.mfp.ipr

/-- Until the check of the video unit, its registers are those of the dump. -/
structure AwaitsVideo (s : State) (d : Dump) (t : State) : Prop extends DumpKept s d t where
  vid : t.vid = loadVid s.cfg d.vid

/-- Until the check of the sound, so are those of the sound. -/
structure AwaitsSound (s : State) (d : Dump) (t : State) : Prop extends AwaitsVideo s d t where
  snd : t.snd = d.snd

/-- Until the check of the DMA engine, so are those of the engine. -/
structure AwaitsDma (s : State) (d : Dump) (t : State) : Prop extends AwaitsSound s d t where
  dma : t.dma = { d.dma with addr := addrReg s.cfg d.dma.addr }

/-- Until the check of the arbiter, so is the burst. -/
structure AwaitsArbiter (s : State) (d : Dump) (t : State) : Prop extends AwaitsDma s d t where
  left : t.bus.burstLeft = d.bus.burstLeft
  owner : t.owner = .dma ↔ d.owner = some .dma

section
variable {s t : State} {d : Dump}

theorem loadDump_awaitsArbiter (s : State) (d : Dump) : AwaitsArbiter s d (loadDump s d) where
  cfg := rfl
  now := rfl
  ipr := rfl
  vid := rfl
  snd := rfl
  dma := rfl
  left := rfl
  owner := by
    show d.owner.getD .cpu = .dma ↔ _
    cases d.owner with
    | none => decide
    | some o => exact (Option.some.injEq ..).symm.to_iff

theorem AwaitsArbiter.blitToIdle (h : AwaitsArbiter s d t) : AwaitsArbiter s d (blitToIdle t) := by
  obtain ⟨hdma, _⟩ := owner_after_blitToIdle t.owner
  rw [blitToIdle_eq]
  exact { h with cfg := h.cfg, now := h.now, ipr := h.ipr, owner := hdma.trans h.owner }

theorem blitChecked_awaitsArbiter (s : State) (d : Dump) : AwaitsArbiter s d (blitChecked s d) :=
  recoverIf_keeps (fun _ h => h.blitToIdle) _ (loadDump_awaitsArbiter s d)

theorem arbiterChecked_awaitsDma (s : State) (d : Dump) : AwaitsDma s d (arbiterChecked s d) :=
  recoverIf_keeps (f := arbiterToIdle) (fun _ h => { h with cfg := h.cfg, now := h.now }) _
    (blitChecked_awaitsArbiter s d).toAwaitsDma

theorem dmaChecked_awaitsSound (s : State) (d : Dump) : AwaitsSound s d (dmaChecked s d) :=
  recoverIf_keeps (f := dmaToIdle) (fun _ h => { h with ipr := h.ipr }) _ (arbiterChecked_awaitsDma s d).toAwaitsSound

theorem soundChecked_awaitsVideo (s : State) (d : Dump) : AwaitsVideo s d (soundChecked s d) :=
  recoverIf_keeps (f := soundOff) (fun _ h => { h with now := h.now }) _ (dmaChecked_awaitsSound s d).toAwaitsVideo

theorem restoreDump_dumpKept (s : State) (d : Dump) : DumpKept s d (restoreDump s d) :=
  recoverIf_keeps (f := videoToReset)
    (fun t h => ⟨(congrArg Prod.fst (clock_videoToReset t)).trans h.cfg, (videoToReset_now t).trans h.now,
      by rw [videoToReset_frame]; exact h.ipr⟩) _ (soundChecked_awaitsVideo s d).toDumpKept

end

/-! ### What a recovery leaves, and what the later ones leave of it -/

/-- A trace record of the unit at the time of the dump. -/
def Traced (d : Dump) (u : UnitName) (t : State) : Prop := (d.sched.now, TraceRec.invalidState u) ∈ t.out.trace

theorem traced_emitTrace {d : Dump} {t : State} (u : UnitName) (h : t.sched.now = d.sched.now) :
    Traced d u (emitTrace t (.invalidState u)) :=
  List.mem_append_right _ (h ▸ List.mem_singleton_self _)

theorem Traced.emitTrace {d : Dump} {u : UnitName} {t : State} (h : Traced d u t) (e : TraceRec) :
    Traced d u (emitTrace t e) :=
  List.mem_append_left _ h

/-- Row 1 of R486. -/
structure BlitterRecovered (c : Config) (d : Dump) (t : State) : Prop where
  busy : t.blit.busy = false
  phase : t.blit.phase = 0
  request : t.blit.request = false
  resume : (t.slot .blitResume).due = none
  line : t.mfp.ext.getLsbD c.blitGpio.toNat = false
  owner : t.owner ≠ .blit
  traced : Traced d .blitter t

/-- Row 2. -/
structure ArbiterRecovered (d : Dump) (t : State) : Prop where
  owner : t.owner = .cpu
  left : t.bus.burstLeft = 0
  traced : Traced d .arbiter t

/-- Row 3. -/
structure DmaRecovered (c : Config) (d : Dump) (t : State) : Prop where
  dma : t.dma = { Dma.reset with
    mode := d.dma.mode, addr := addrReg c d.dma.addr, idx := if d.dma.mode.getLsbD 8 then 16 else 0 }
  line : t.mfp.ext.getLsbD c.dmaGpio.toNat = false
  traced : Traced d .dma t

/-- Row 4. -/
structure SoundRecovered (d : Dump) (t : State) : Prop where
  snd : t.snd = { d.snd with fifo := [], en := false }
  drain : (t.slot .sndDrain).due = none
  traced : Traced d .sound t

/-- Row 5. -/
structure VideoRecovered (c : Config) (d : Dump) (t : State) : Prop where
  vid : t.vid = { Vid.blank with lineStart := d.sched.now, bounds := ⟨c.vtNtsc60.lineLen, c.vtNtsc60.winStart,
    c.vtNtsc60.winEnd, c.vtNtsc60.hbStart, decide (c.vtNtsc60.picFirst ≤ 0 ∧ 0 ≤ c.vtNtsc60.picLast)⟩ }
  lineEnd : (t.slot .vidLine).due = some (d.sched.now + c.vtNtsc60.lineLen)
  deOn : (t.slot .vidDeOn).due =
    if decide (c.vtNtsc60.picFirst ≤ 0 ∧ 0 ≤ c.vtNtsc60.picLast) then some (d.sched.now + c.vtNtsc60.winStart) else none
  deOff : (t.slot .vidDeOff).due =
    if decide (c.vtNtsc60.picFirst ≤ 0 ∧ 0 ≤ c.vtNtsc60.picLast) then some (d.sched.now + c.vtNtsc60.winEnd) else none
  hb : (t.slot .vidHb).due = some (d.sched.now + c.vtNtsc60.hbStart)
  traced : Traced d .video t

section
variable {s t : State} {d : Dump} {c : Config}

theorem Traced.videoToReset {u : UnitName} (h : Traced d u t) : Traced d u (videoToReset t) := by
  rw [videoToReset_frame]
  exact List.mem_append_left _ h

/-! #### The blitter -/

theorem blitToIdle_recovers (h : DumpKept s d t) : BlitterRecovered s.cfg d (blitToIdle t) := by
  obtain ⟨_, hblit⟩ := owner_after_blitToIdle t.owner
  rw [blitToIdle_eq]
  refine ⟨rfl, rfl, rfl, rfl, ?_, hblit, traced_emitTrace _ h.now⟩
  show (putBit t.mfp.ext t.cfg.blitGpio.toNat false).getLsbD s.cfg.blitGpio.toNat = false
  rw [h.cfg, getLsbD_putBit_line, if_pos rfl]

theorem BlitterRecovered.arbiterToIdle (h : BlitterRecovered c d t) : BlitterRecovered c d (arbiterToIdle t) :=
  { h with owner := nofun, traced := Traced.emitTrace (t := t) h.traced _ }

theorem BlitterRecovered.dmaToIdle (h : BlitterRecovered c d t) : BlitterRecovered c d (dmaToIdle t) := by
  refine { h with line := ?_, traced := Traced.emitTrace (t := t) h.traced _ }
  show (putBit t.mfp.ext t.cfg.dmaGpio.toNat false).getLsbD c.blitGpio.toNat = false
  rw [getLsbD_putBit_line, h.line, ite_self]

theorem BlitterRecovered.soundOff (h : BlitterRecovered c d t) : BlitterRecovered c d (soundOff t) :=
  { h with resume := h.resume, traced := Traced.emitTrace (t := t) h.traced _ }

theorem BlitterRecovered.videoToReset (h : BlitterRecovered c d t) : BlitterRecovered c d (videoToReset t) := by
  have resume := (congrArg Slot.due (videoToReset_slot_other t offLine_blitResume)).trans h.resume
  have traced := h.traced.videoToReset
  rw [videoToReset_frame] at resume traced ⊢
  exact { h with resume, traced }

/-! #### The arbiter -/

theorem arbiterToIdle_recovers (h : DumpKept s d t) : ArbiterRecovered d (arbiterToIdle t) :=
  ⟨rfl, rfl, traced_emitTrace _ h.now⟩

theorem ArbiterRecovered.dmaToIdle (h : ArbiterRecovered d t) : ArbiterRecovered d (dmaToIdle t) :=
  { h with traced := Traced.emitTrace (t := t) h.traced _ }

theorem ArbiterRecovered.soundOff (h : ArbiterRecovered d t) : ArbiterRecovered d (soundOff t) :=
  { h with traced := Traced.emitTrace (t := t) h.traced _ }

theorem ArbiterRecovered.videoToReset (h : ArbiterRecovered d t) : ArbiterRecovered d (videoToReset t) := by
  have traced := h.traced.videoToReset
  rw [videoToReset_frame] at traced ⊢
  exact { h with traced }

/-! #### The DMA engine -/

theorem dmaToIdle_recovers (h : AwaitsDma s d t) : DmaRecovered s.cfg d (dmaToIdle t) := by
  refine ⟨?_, ?_, traced_emitTrace _ h.now⟩
  · show engineIdle t.dma = _
    rw [h.dma]
    rfl
  · show (putBit t.mfp.ext t.cfg.dmaGpio.toNat false).getLsbD s.cfg.dmaGpio.toNat = false
    rw [h.cfg, getLsbD_putBit_line, if_pos rfl]

theorem DmaRecovered.soundOff (h : DmaRecovered c d t) : DmaRecovered c d (soundOff t) :=
  { h with traced := Traced.emitTrace (t := t) h.traced _ }

theorem DmaRecovered.videoToReset (h : DmaRecovered c d t) : DmaRecovered c d (videoToReset t) := by
  have traced := h.traced.videoToReset
  rw [videoToReset_frame] at traced ⊢
  exact { h with traced }

/-! #### The sound -/

theorem soundOff_recovers (h : AwaitsSound s d t) : SoundRecovered d (soundOff t) :=
  ⟨congrArg (fun x : Snd => { x with fifo := [], en := false }) h.snd, rfl, traced_emitTrace _ h.now⟩

theorem SoundRecovered.videoToReset (h : SoundRecovered d t) : SoundRecovered d (videoToReset t) := by
  have drain := (congrArg Slot.due (videoToReset_slot_other t offLine_sndDrain)).trans h.drain
  have traced := h.traced.videoToReset
  rw [videoToReset_frame] at drain traced ⊢
  exact { h with drain, traced }

/-! #### The video unit -/

theorem videoToReset_recovers (h : DumpKept s d t) : VideoRecovered s.cfg d (videoToReset t) := by
  obtain ⟨hcfg, hnow, _⟩ := h
  obtain ⟨hline, hon, hoff, hhb⟩ :=
    lineArmed_due (videoBlanked t) t.cfg.vtNtsc60 0 t.sched.now
  have hvid := congrArg State.vid (videoToReset_frame t)
  have traced : Traced d .video (videoToReset t) := by
    rw [videoToReset_frame]
    exact traced_emitTrace (t := t) _ hnow
  rw [hcfg, hnow] at hline hon hoff hhb hvid
  refine ⟨hvid, ?_, ?_, ?_, ?_, traced⟩
  all_goals rw [videoToReset_lineArmed, slot_tracing, hcfg, hnow]
  · exact hline
  · exact hon
  · exact hoff
  · exact hhb

end

/-! ### The rows -/

section
variable (s : State) (d : Dump)

theorem blitterRow (h : 4 < d.blit.phase.toNat ∨ s.cfg.blitSlice < d.blit.timeout ∨
    (d.owner = some .blit ∧ d.blit.phase = 0) ∨ (d.owner ≠ some .blit ∧ d.blit.phase ≠ 0)) :
    BlitterRecovered s.cfg d (restoreDump s d) := by
  have bad : badBlit (loadDump s d) d.owner = true := by
    simp only [badBlit, Bool.or_eq_true, Bool.and_eq_true, decide_eq_true_eq, beq_iff_eq, bne_iff_ne, or_assoc]
    exact h
  have checked : BlitterRecovered s.cfg d (blitChecked s d) := by
    rw [blitChecked, bad]
    exact blitToIdle_recovers (loadDump_awaitsArbiter s d).toDumpKept
  exact recoverIf_keeps (fun _ h => h.videoToReset) _ <| recoverIf_keeps (fun _ h => h.soundOff) _ <|
    recoverIf_keeps (fun _ h => h.dmaToIdle) _ <| recoverIf_keeps (fun _ h => h.arbiterToIdle) _ checked

theorem arbiterRow (h : d.owner = none ∨ 8 < d.bus.burstLeft ∨ ¬ (d.owner = some .dma ↔ 0 < d.bus.burstLeft)) :
    ArbiterRecovered d (restoreDump s d) := by
  have awaits := blitChecked_awaitsArbiter s d
  have bad : badArbiter (blitChecked s d) d.owner = true := by
    simp only [badArbiter, Bool.or_eq_true, decide_eq_true_eq, bne_iff_ne, ne_eq, beq_eq_decide,
      decide_eq_decide, awaits.left, awaits.owner, or_assoc]
    exact h
  have checked : ArbiterRecovered d (arbiterChecked s d) := by
    rw [arbiterChecked, bad]
    exact arbiterToIdle_recovers awaits.toDumpKept
  exact recoverIf_keeps (fun _ h => h.videoToReset) _ <| recoverIf_keeps (fun _ h => h.soundOff) _ <|
    recoverIf_keeps (fun _ h => h.dmaToIdle) _ checked

theorem dmaRow (h : 16 < d.dma.idx ∨ d.dma.byteCnt % 16 ≠ 0 ∨ 512 ≤ d.dma.byteCnt ∨ 1 < d.dma.active) :
    DmaRecovered s.cfg d (restoreDump s d) := by
  have awaits := arbiterChecked_awaitsDma s d
  have bad : badDma (arbiterChecked s d).dma = true := by
    simp only [awaits.dma, badDma, Bool.or_eq_true, decide_eq_true_eq, or_assoc]
    exact h
  have checked : DmaRecovered s.cfg d (dmaChecked s d) := by
    rw [dmaChecked, bad]
    exact dmaToIdle_recovers awaits
  exact recoverIf_keeps (fun _ h => h.videoToReset) _ <| recoverIf_keeps (fun _ h => h.soundOff) _ checked

theorem soundRow (h : 4 < d.snd.fifo.length) : SoundRecovered d (restoreDump s d) := by
  have awaits := dmaChecked_awaitsSound s d
  have bad : badSound (dmaChecked s d).snd = true := by
    rw [awaits.snd]
    exact decide_eq_true h
  have checked : SoundRecovered d (soundChecked s d) := by
    rw [soundChecked, bad]
    exact soundOff_recovers awaits
  exact recoverIf_keeps (fun _ h => h.videoToReset) _ checked

theorem videoRow (h : (videoTiming s.cfg (videoMode d.vid)).lines ≤ d.vid.line ∨ boundsOk d.vid.bounds = false) :
    VideoRecovered s.cfg d (restoreDump s d) := by
  have awaits := soundChecked_awaitsVideo s d
  have bad : badVideo (soundChecked s d) = true := by
    simp only [badVideo, Bool.or_eq_true, decide_eq_true_eq, Bool.not_eq_true', awaits.vid, awaits.cfg]
    exact h
  rw [restoreDump_eq, bad]
  exact videoToReset_recovers awaits.toDumpKept

end

/-- Settles O25: the rows of R486. -/
theorem restoreRecoversBadUnits : Obligations.RestoreRecoversBadUnits := by
  intro s d hcfg
  have kept := restoreDump_dumpKept s d
  refine ⟨restoreDump s d, exec_restore hcfg, kept.ipr, kept.now, fun h => ?_, fun h => ?_, fun h => ?_, fun h => ?_,
    fun h => ?_⟩
  · obtain ⟨busy, phase, request, resume, line, owner, traced⟩ := blitterRow s d h
    exact ⟨busy, phase, request, resume, line, owner, traced⟩
  · obtain ⟨owner, left, traced⟩ := arbiterRow s d h
    exact ⟨owner, left, traced⟩
  · obtain ⟨dma, line, traced⟩ := dmaRow s d h
    exact ⟨dma, line, traced⟩
  · obtain ⟨snd, drain, traced⟩ := soundRow s d h
    exact ⟨snd, drain, traced⟩
  · obtain ⟨vid, lineEnd, deOn, deOff, hb, traced⟩ := videoRow s d h
    exact ⟨⟨vid, lineEnd, deOn, deOff, hb⟩, traced⟩

end Sys2Proof.Machine
end

section
/-! The state after RESET.C and RESET.W (70_reset_and_hazards.md R520 to R523): every unit at its reset value and the
first scanline of NTSC_60 armed; and the reset state among the states they give. -/

namespace Sys2Proof.Machine

/-! ### The external lines -/

theorem getLsbD_extAtReset (c : Config) (i : BitVec 3) : (extAtReset c).getLsbD i.toNat =
    (c.extReset.getLsbD i.toNat && decide (i ≠ c.blitGpio ∧ i ≠ c.dmaGpio)) := by
  have driven : extAtReset c = putBit (putBit c.extReset c.blitGpio.toNat false) c.dmaGpio.toNat false := rfl
  rw [driven, getLsbD_putBit_line, getLsbD_putBit_line]
  by_cases hdma : i = c.dmaGpio
  · simp [hdma]
  · by_cases hblit : i = c.blitGpio <;> simp [hdma, hblit]

/-! ### The first scanline -/

/-- The mode is that of the reset values, and the line starts at `now` (R523). -/
theorem resetCommon_eq (s : State) :
    resetCommon s = lineArmed (resetUnits s) s.cfg.vtNtsc60 0 s.sched.now :=
  (congrArg (latchAndArm _ · _) videoMode_blank).trans (latchAndArm_eq (resetUnits s) .ntsc60 0 s.sched.now)

/-- Line 0 of NTSC_60 lies in the border by default, so that two slots are armed (R523). -/
theorem resetCommon_default {s : State} (hcfg : s.cfg = Config.default) (hnow : s.sched.now = 0)
    (hseq : s.sched.seqNext = 0) :
    resetCommon s = { State.reset with mem := s.mem, env := s.env, out := s.out, inbox := s.inbox } := by
  have border : ¬ (s.cfg.vtNtsc60.picFirst ≤ 0 ∧ 0 ≤ s.cfg.vtNtsc60.picLast) := by
    rw [hcfg]
    decide
  rw [resetCommon_eq, lineArmed_border _ _ _ _ border]
  obtain ⟨_, ⟨_, _, _⟩, _⟩ := s
  subst hcfg hnow hseq
  rfl

/-- Settles O21: both commands are `resetCommon`, after RESET.C has set the counters and RAM anew. -/
theorem stateAfterReset : Obligations.StateAfterReset := by
  intro s
  refine ⟨⟨extAtReset s.cfg, getLsbD_extAtReset s.cfg, ?_, ?_⟩, fun hcfg => ?_⟩
  · exact congrArg Host.Outcome.next (resetCommon_eq _)
  · exact congrArg Host.Outcome.next (resetCommon_eq s)
  · exact congrArg Host.Outcome.next (resetCommon_default hcfg rfl rfl)

/-! ### The reset state -/

/-- The machine at power-on, before its units are reset. -/
def poweredOn : State := { State.reset with sched := ⟨0, 0, Slots.reset⟩ }

theorem resetCommon_poweredOn : resetCommon poweredOn = State.reset := resetCommon_default rfl rfl rfl

theorem default_wf : Config.default.wf = true := by decide

/-- Settles O53: the reset state is what a reset gives, and a reset establishes the invariant; no bit is pending or in
service. -/
theorem resetIsWellFormed : Obligations.ResetIsWellFormed := by
  have established : Inv (resetCommon poweredOn) := resetCommon_inv default_wf reset_mem_wf
  have pending : PendingEnabled State.reset.mfp := show (0 : Word) &&& ~~~0 = 0 by decide
  exact ⟨resetCommon_poweredOn ▸ established, pending, fun _ => rfl⟩

end Sys2Proof.Machine
end
